-- ==== Sys2Proof/Word.lean ====
section
/-! DEFINITION. The words of PFMC: command words, bus values and 16-bit table entries are 16 bits
(spec 10_state.md R28, R29; 30_encoding.md R60), a brightness and a GAMMA8 entry 8 bits (R24). -/

namespace Sys2Proof

/-- A command word, a channel on a bus, a scalar bus value, a 16-bit table entry. -/
abbrev Word := BitVec 16

/-- An 8-bit value: a brightness, a GAMMA8 entry, a byte of a host's packed pixel. -/
abbrev Byte := BitVec 8

/-- `zext_16(v)` of 00_scope.md R14: `v` in a 16-bit field. Every use has `v < 2^16`. -/
def zext16 (v : Nat) : Word := BitVec.ofNat 16 v

end Sys2Proof
end

