-- ==== Sys2Proof/Config.lean ====
section
/-! DEFINITION. What an implementation of PFMC fixes: the parameters of spec 00_scope.md R11 and R13.
A parameter the machine carries is plain data (`Params`, a field of State that no step changes); a value the
spec leaves open is an opaque constant, of which nothing can be proved but what the machine's own
limits (Machine/Rom.lean, Machine/Operands.lean) make of it. -/

namespace Sys2Proof

/-- Which NORM_PRODUCT the block has (40_construction.md R83): the spec's default, the exact floor, or
the product of some floating-point implementation, of which R83 fixes only the two end points and the
bound. Log 9. -/
inductive NormProduct where
  | exactFloor
  | implementation
  deriving DecidableEq, Repr

/-- The order in which a host stores the bytes of a packed pixel word (30_encoding.md R72, OPEN). Log 15. -/
inductive PackByteOrder where
  | little
  | big
  deriving DecidableEq, Repr

/-- The parameters a machine carries: BG_ATOMIC_SWAP (43_background.md R164) and NORM_PRODUCT
(40_construction.md R83). N_PORTS is the length of State's list of ports (log 11). -/
structure Params where
  bgAtomicSwap : Bool
  normProduct  : NormProduct
  deriving DecidableEq, Repr

/-- The defaults of 92_eei_decisions.md D16 and D9. -/
def Params.default : Params := { bgAtomicSwap := false, normProduct := .exactFloor }

/-- The default N_PORTS of 92_eei_decisions.md D26. -/
def Config.nPortsDefault : Nat := 1

/-- Free: where the entries of GAMMA8_ROM come from (00_scope.md R11; 42_gamma.md R141 limits them in
`Machine.gamma8Table`). Log 7. -/
opaque Config.gamma8Free : Nat → Nat

/-- Free: where the entries of GAMMA16_ROM come from (00_scope.md R11; 42_gamma.md R142 limits them in
`Machine.gamma16Table`). Log 7. -/
opaque Config.gamma16Free : Nat → Nat

/-- Free: an implementation's product of a normalized component and a channel width in bits
(40_construction.md R83 limits it in `Machine.normProduct`). Log 9. -/
opaque Config.normProductFree : Rat → Nat → Nat

end Sys2Proof
end

