-- ==== Sys2Proof/Syntax.lean ====
section
/-! DEFINITION. The commands of PFMC: pixel formats and channel widths (spec 00_scope.md R9, R10), the 11 scale
tables (R10), the shape of a command (30_encoding.md R62, R64) and `Instr`, one constructor per row of
spec/opcode_table.json. The assembler names R73 and the pseudo-instructions R74 stand at the end. -/

namespace Sys2Proof

/-- The four pixel formats (00_scope.md R9). -/
inductive Format where
  | narrow8
  | mid16
  | standard24
  | wide48
  deriving DecidableEq, Repr

/-- The members of WIDTHS (00_scope.md R10). -/
inductive Width where
  | w2
  | w3
  | w5
  | w6
  | w8
  | w16
  deriving DecidableEq, Repr

/-- A channel width in bits. -/
def Width.bits : Width → Nat
  | .w2 => 2
  | .w3 => 3
  | .w5 => 5
  | .w6 => 6
  | .w8 => 8
  | .w16 => 16

/-- `wr` of `W(f)` (00_scope.md R9). -/
def Format.red : Format → Width
  | .narrow8 => .w3
  | .mid16 => .w5
  | .standard24 => .w8
  | .wide48 => .w16

/-- `wg` of `W(f)` (00_scope.md R9). -/
def Format.green : Format → Width
  | .narrow8 => .w3
  | .mid16 => .w6
  | .standard24 => .w8
  | .wide48 => .w16

/-- `wb` of `W(f)` (00_scope.md R9). -/
def Format.blue : Format → Width
  | .narrow8 => .w2
  | .mid16 => .w5
  | .standard24 => .w8
  | .wide48 => .w16

/-- The format code (00_scope.md R9, 30_encoding.md R61). -/
def Format.code : Format → Nat
  | .narrow8 => 0
  | .mid16 => 1
  | .standard24 => 2
  | .wide48 => 3

/-- The width code (30_encoding.md R63). -/
def Width.code : Width → Nat
  | .w2 => 0
  | .w3 => 1
  | .w5 => 2
  | .w6 => 3
  | .w8 => 4
  | .w16 => 5

/-- The 11 scale tables (00_scope.md R10, 10_state.md R24). -/
inductive ScaleTable where
  | t2to5
  | t2to8
  | t2to16
  | t3to5
  | t3to6
  | t3to8
  | t3to16
  | t5to8
  | t5to16
  | t6to8
  | t6to16
  deriving DecidableEq, Repr

/-- The source width of a scale table; it has `2^n` entries (10_state.md R24). -/
def ScaleTable.src : ScaleTable → Width
  | .t2to5 => .w2
  | .t2to8 => .w2
  | .t2to16 => .w2
  | .t3to5 => .w3
  | .t3to6 => .w3
  | .t3to8 => .w3
  | .t3to16 => .w3
  | .t5to8 => .w5
  | .t5to16 => .w5
  | .t6to8 => .w6
  | .t6to16 => .w6

/-- The destination width of a scale table, the width of its entries (10_state.md R24). -/
def ScaleTable.dst : ScaleTable → Width
  | .t2to5 => .w5
  | .t2to8 => .w8
  | .t2to16 => .w16
  | .t3to5 => .w5
  | .t3to6 => .w6
  | .t3to8 => .w8
  | .t3to16 => .w16
  | .t5to8 => .w8
  | .t5to16 => .w16
  | .t6to8 => .w8
  | .t6to16 => .w16

/-- TABLES of 41_conversion.md R105: the scale table of a pair of widths, if it has one. -/
def scaleTable? : Width → Width → Option ScaleTable
  | .w2, .w5 => some .t2to5
  | .w2, .w8 => some .t2to8
  | .w2, .w16 => some .t2to16
  | .w3, .w5 => some .t3to5
  | .w3, .w6 => some .t3to6
  | .w3, .w8 => some .t3to8
  | .w3, .w16 => some .t3to16
  | .w5, .w8 => some .t5to8
  | .w5, .w16 => some .t5to16
  | .w6, .w8 => some .t6to8
  | .w6, .w16 => some .t6to16
  | _, _ => none

/-- A command's operation with the formats or widths its word names (30_encoding.md R62, R73). Not every value
is a legal command: `Op.wf` (WellFormed.lean) says which are. -/
inductive Op where
  | conv (src dst : Format)
  | mkraw (fmt : Format)
  | mknorm (fmt : Format)
  | rescale (a b : Width)
  | slut (a b : Width)
  | gamma8
  | gamma16
  | cc (src dst : Format)
  | bgbuild
  | bgread
  | stat
  deriving DecidableEq, Repr

/-- The 81 legal commands, one constructor per row of spec/opcode_table.json (30_encoding.md R65). -/
inductive Instr where
  /-- `CONV narrow8, narrow8`, word 0x0000, R111. -/
  | convNarrow8Narrow8
  /-- `CONV narrow8, mid16`, word 0x0100, R112. -/
  | convNarrow8Mid16
  /-- `CONV narrow8, standard24`, word 0x0200, R113. -/
  | convNarrow8Standard24
  /-- `CONV narrow8, wide48`, word 0x0300, R114. -/
  | convNarrow8Wide48
  /-- `CONV mid16, narrow8`, word 0x0400, R115. -/
  | convMid16Narrow8
  /-- `CONV mid16, mid16`, word 0x0500, R116. -/
  | convMid16Mid16
  /-- `CONV mid16, standard24`, word 0x0600, R117. -/
  | convMid16Standard24
  /-- `CONV mid16, wide48`, word 0x0700, R118. -/
  | convMid16Wide48
  /-- `CONV standard24, narrow8`, word 0x0800, R119. -/
  | convStandard24Narrow8
  /-- `CONV standard24, mid16`, word 0x0900, R120. -/
  | convStandard24Mid16
  /-- `CONV standard24, standard24`, word 0x0A00, R121. -/
  | convStandard24Standard24
  /-- `CONV standard24, wide48`, word 0x0B00, R122. -/
  | convStandard24Wide48
  /-- `CONV wide48, narrow8`, word 0x0C00, R123. -/
  | convWide48Narrow8
  /-- `CONV wide48, mid16`, word 0x0D00, R124. -/
  | convWide48Mid16
  /-- `CONV wide48, standard24`, word 0x0E00, R125. -/
  | convWide48Standard24
  /-- `CONV wide48, wide48`, word 0x0F00, R126. -/
  | convWide48Wide48
  /-- `MKRAW narrow8`, word 0x1000, R84. -/
  | mkrawNarrow8
  /-- `MKRAW mid16`, word 0x1400, R85. -/
  | mkrawMid16
  /-- `MKRAW standard24`, word 0x1800, R86. -/
  | mkrawStandard24
  /-- `MKRAW wide48`, word 0x1C00, R87. -/
  | mkrawWide48
  /-- `MKNORM narrow8`, word 0x2000, R88. -/
  | mknormNarrow8
  /-- `MKNORM mid16`, word 0x2400, R89. -/
  | mknormMid16
  /-- `MKNORM standard24`, word 0x2800, R90. -/
  | mknormStandard24
  /-- `MKNORM wide48`, word 0x2C00, R91. -/
  | mknormWide48
  /-- `RESCALE 2, 2`, word 0x3000, R110. -/
  | rescale2To2
  /-- `RESCALE 2, 5`, word 0x3080, R110. -/
  | rescale2To5
  /-- `RESCALE 2, 8`, word 0x3100, R110. -/
  | rescale2To8
  /-- `RESCALE 2, 16`, word 0x3140, R110. -/
  | rescale2To16
  /-- `RESCALE 3, 2`, word 0x3200, R110. -/
  | rescale3To2
  /-- `RESCALE 3, 3`, word 0x3240, R110. -/
  | rescale3To3
  /-- `RESCALE 3, 5`, word 0x3280, R110. -/
  | rescale3To5
  /-- `RESCALE 3, 6`, word 0x32C0, R110. -/
  | rescale3To6
  /-- `RESCALE 3, 8`, word 0x3300, R110. -/
  | rescale3To8
  /-- `RESCALE 3, 16`, word 0x3340, R110. -/
  | rescale3To16
  /-- `RESCALE 5, 2`, word 0x3400, R110. -/
  | rescale5To2
  /-- `RESCALE 5, 3`, word 0x3440, R110. -/
  | rescale5To3
  /-- `RESCALE 5, 5`, word 0x3480, R110. -/
  | rescale5To5
  /-- `RESCALE 5, 8`, word 0x3500, R110. -/
  | rescale5To8
  /-- `RESCALE 5, 16`, word 0x3540, R110. -/
  | rescale5To16
  /-- `RESCALE 6, 2`, word 0x3600, R110. -/
  | rescale6To2
  /-- `RESCALE 6, 3`, word 0x3640, R110. -/
  | rescale6To3
  /-- `RESCALE 6, 5`, word 0x3680, R110. -/
  | rescale6To5
  /-- `RESCALE 6, 6`, word 0x36C0, R110. -/
  | rescale6To6
  /-- `RESCALE 6, 8`, word 0x3700, R110. -/
  | rescale6To8
  /-- `RESCALE 6, 16`, word 0x3740, R110. -/
  | rescale6To16
  /-- `RESCALE 8, 2`, word 0x3800, R110. -/
  | rescale8To2
  /-- `RESCALE 8, 3`, word 0x3840, R110. -/
  | rescale8To3
  /-- `RESCALE 8, 5`, word 0x3880, R110. -/
  | rescale8To5
  /-- `RESCALE 8, 6`, word 0x38C0, R110. -/
  | rescale8To6
  /-- `RESCALE 8, 8`, word 0x3900, R110. -/
  | rescale8To8
  /-- `RESCALE 8, 16`, word 0x3940, R110. -/
  | rescale8To16
  /-- `RESCALE 16, 2`, word 0x3A00, R110. -/
  | rescale16To2
  /-- `RESCALE 16, 3`, word 0x3A40, R110. -/
  | rescale16To3
  /-- `RESCALE 16, 5`, word 0x3A80, R110. -/
  | rescale16To5
  /-- `RESCALE 16, 6`, word 0x3AC0, R110. -/
  | rescale16To6
  /-- `RESCALE 16, 8`, word 0x3B00, R110. -/
  | rescale16To8
  /-- `RESCALE 16, 16`, word 0x3B40, R110. -/
  | rescale16To16
  /-- `SLUT 2, 5`, word 0x4080, R109. -/
  | slut2To5
  /-- `SLUT 2, 8`, word 0x4100, R109. -/
  | slut2To8
  /-- `SLUT 2, 16`, word 0x4140, R109. -/
  | slut2To16
  /-- `SLUT 3, 5`, word 0x4280, R109. -/
  | slut3To5
  /-- `SLUT 3, 6`, word 0x42C0, R109. -/
  | slut3To6
  /-- `SLUT 3, 8`, word 0x4300, R109. -/
  | slut3To8
  /-- `SLUT 3, 16`, word 0x4340, R109. -/
  | slut3To16
  /-- `SLUT 5, 8`, word 0x4500, R109. -/
  | slut5To8
  /-- `SLUT 5, 16`, word 0x4540, R109. -/
  | slut5To16
  /-- `SLUT 6, 8`, word 0x4700, R109. -/
  | slut6To8
  /-- `SLUT 6, 16`, word 0x4740, R109. -/
  | slut6To16
  /-- `GAMMA8`, word 0x5000, R143. -/
  | gamma8
  /-- `GAMMA16`, word 0x6000, R144. -/
  | gamma16
  /-- `CC narrow8, standard24`, word 0x7200, R147. -/
  | ccNarrow8Standard24
  /-- `CC narrow8, wide48`, word 0x7300, R147. -/
  | ccNarrow8Wide48
  /-- `CC mid16, standard24`, word 0x7600, R147. -/
  | ccMid16Standard24
  /-- `CC mid16, wide48`, word 0x7700, R147. -/
  | ccMid16Wide48
  /-- `CC standard24, standard24`, word 0x7A00, R145. -/
  | ccStandard24Standard24
  /-- `CC standard24, wide48`, word 0x7B00, R146. -/
  | ccStandard24Wide48
  /-- `CC wide48, standard24`, word 0x7E00, R147. -/
  | ccWide48Standard24
  /-- `CC wide48, wide48`, word 0x7F00, R147. -/
  | ccWide48Wide48
  /-- `BGBUILD`, word 0x8000, R162. -/
  | bgbuild
  /-- `BGREAD`, word 0x9000, R166. -/
  | bgread
  /-- `STAT`, word 0xA000, R180. -/
  | stat
  deriving DecidableEq, Repr

/-- The operation, formats and widths of an instruction. -/
def Instr.op : Instr → Op
  | .convNarrow8Narrow8 => .conv .narrow8 .narrow8
  | .convNarrow8Mid16 => .conv .narrow8 .mid16
  | .convNarrow8Standard24 => .conv .narrow8 .standard24
  | .convNarrow8Wide48 => .conv .narrow8 .wide48
  | .convMid16Narrow8 => .conv .mid16 .narrow8
  | .convMid16Mid16 => .conv .mid16 .mid16
  | .convMid16Standard24 => .conv .mid16 .standard24
  | .convMid16Wide48 => .conv .mid16 .wide48
  | .convStandard24Narrow8 => .conv .standard24 .narrow8
  | .convStandard24Mid16 => .conv .standard24 .mid16
  | .convStandard24Standard24 => .conv .standard24 .standard24
  | .convStandard24Wide48 => .conv .standard24 .wide48
  | .convWide48Narrow8 => .conv .wide48 .narrow8
  | .convWide48Mid16 => .conv .wide48 .mid16
  | .convWide48Standard24 => .conv .wide48 .standard24
  | .convWide48Wide48 => .conv .wide48 .wide48
  | .mkrawNarrow8 => .mkraw .narrow8
  | .mkrawMid16 => .mkraw .mid16
  | .mkrawStandard24 => .mkraw .standard24
  | .mkrawWide48 => .mkraw .wide48
  | .mknormNarrow8 => .mknorm .narrow8
  | .mknormMid16 => .mknorm .mid16
  | .mknormStandard24 => .mknorm .standard24
  | .mknormWide48 => .mknorm .wide48
  | .rescale2To2 => .rescale .w2 .w2
  | .rescale2To5 => .rescale .w2 .w5
  | .rescale2To8 => .rescale .w2 .w8
  | .rescale2To16 => .rescale .w2 .w16
  | .rescale3To2 => .rescale .w3 .w2
  | .rescale3To3 => .rescale .w3 .w3
  | .rescale3To5 => .rescale .w3 .w5
  | .rescale3To6 => .rescale .w3 .w6
  | .rescale3To8 => .rescale .w3 .w8
  | .rescale3To16 => .rescale .w3 .w16
  | .rescale5To2 => .rescale .w5 .w2
  | .rescale5To3 => .rescale .w5 .w3
  | .rescale5To5 => .rescale .w5 .w5
  | .rescale5To8 => .rescale .w5 .w8
  | .rescale5To16 => .rescale .w5 .w16
  | .rescale6To2 => .rescale .w6 .w2
  | .rescale6To3 => .rescale .w6 .w3
  | .rescale6To5 => .rescale .w6 .w5
  | .rescale6To6 => .rescale .w6 .w6
  | .rescale6To8 => .rescale .w6 .w8
  | .rescale6To16 => .rescale .w6 .w16
  | .rescale8To2 => .rescale .w8 .w2
  | .rescale8To3 => .rescale .w8 .w3
  | .rescale8To5 => .rescale .w8 .w5
  | .rescale8To6 => .rescale .w8 .w6
  | .rescale8To8 => .rescale .w8 .w8
  | .rescale8To16 => .rescale .w8 .w16
  | .rescale16To2 => .rescale .w16 .w2
  | .rescale16To3 => .rescale .w16 .w3
  | .rescale16To5 => .rescale .w16 .w5
  | .rescale16To6 => .rescale .w16 .w6
  | .rescale16To8 => .rescale .w16 .w8
  | .rescale16To16 => .rescale .w16 .w16
  | .slut2To5 => .slut .w2 .w5
  | .slut2To8 => .slut .w2 .w8
  | .slut2To16 => .slut .w2 .w16
  | .slut3To5 => .slut .w3 .w5
  | .slut3To6 => .slut .w3 .w6
  | .slut3To8 => .slut .w3 .w8
  | .slut3To16 => .slut .w3 .w16
  | .slut5To8 => .slut .w5 .w8
  | .slut5To16 => .slut .w5 .w16
  | .slut6To8 => .slut .w6 .w8
  | .slut6To16 => .slut .w6 .w16
  | .gamma8 => .gamma8
  | .gamma16 => .gamma16
  | .ccNarrow8Standard24 => .cc .narrow8 .standard24
  | .ccNarrow8Wide48 => .cc .narrow8 .wide48
  | .ccMid16Standard24 => .cc .mid16 .standard24
  | .ccMid16Wide48 => .cc .mid16 .wide48
  | .ccStandard24Standard24 => .cc .standard24 .standard24
  | .ccStandard24Wide48 => .cc .standard24 .wide48
  | .ccWide48Standard24 => .cc .wide48 .standard24
  | .ccWide48Wide48 => .cc .wide48 .wide48
  | .bgbuild => .bgbuild
  | .bgread => .bgread
  | .stat => .stat

/-- The instruction of an operation, none where the operation is no legal command (30_encoding.md R66, R67). -/
def Op.instr? : Op → Option Instr
  | .conv .narrow8 .narrow8 => some .convNarrow8Narrow8
  | .conv .narrow8 .mid16 => some .convNarrow8Mid16
  | .conv .narrow8 .standard24 => some .convNarrow8Standard24
  | .conv .narrow8 .wide48 => some .convNarrow8Wide48
  | .conv .mid16 .narrow8 => some .convMid16Narrow8
  | .conv .mid16 .mid16 => some .convMid16Mid16
  | .conv .mid16 .standard24 => some .convMid16Standard24
  | .conv .mid16 .wide48 => some .convMid16Wide48
  | .conv .standard24 .narrow8 => some .convStandard24Narrow8
  | .conv .standard24 .mid16 => some .convStandard24Mid16
  | .conv .standard24 .standard24 => some .convStandard24Standard24
  | .conv .standard24 .wide48 => some .convStandard24Wide48
  | .conv .wide48 .narrow8 => some .convWide48Narrow8
  | .conv .wide48 .mid16 => some .convWide48Mid16
  | .conv .wide48 .standard24 => some .convWide48Standard24
  | .conv .wide48 .wide48 => some .convWide48Wide48
  | .mkraw .narrow8 => some .mkrawNarrow8
  | .mkraw .mid16 => some .mkrawMid16
  | .mkraw .standard24 => some .mkrawStandard24
  | .mkraw .wide48 => some .mkrawWide48
  | .mknorm .narrow8 => some .mknormNarrow8
  | .mknorm .mid16 => some .mknormMid16
  | .mknorm .standard24 => some .mknormStandard24
  | .mknorm .wide48 => some .mknormWide48
  | .rescale .w2 .w2 => some .rescale2To2
  | .rescale .w2 .w5 => some .rescale2To5
  | .rescale .w2 .w8 => some .rescale2To8
  | .rescale .w2 .w16 => some .rescale2To16
  | .rescale .w3 .w2 => some .rescale3To2
  | .rescale .w3 .w3 => some .rescale3To3
  | .rescale .w3 .w5 => some .rescale3To5
  | .rescale .w3 .w6 => some .rescale3To6
  | .rescale .w3 .w8 => some .rescale3To8
  | .rescale .w3 .w16 => some .rescale3To16
  | .rescale .w5 .w2 => some .rescale5To2
  | .rescale .w5 .w3 => some .rescale5To3
  | .rescale .w5 .w5 => some .rescale5To5
  | .rescale .w5 .w8 => some .rescale5To8
  | .rescale .w5 .w16 => some .rescale5To16
  | .rescale .w6 .w2 => some .rescale6To2
  | .rescale .w6 .w3 => some .rescale6To3
  | .rescale .w6 .w5 => some .rescale6To5
  | .rescale .w6 .w6 => some .rescale6To6
  | .rescale .w6 .w8 => some .rescale6To8
  | .rescale .w6 .w16 => some .rescale6To16
  | .rescale .w8 .w2 => some .rescale8To2
  | .rescale .w8 .w3 => some .rescale8To3
  | .rescale .w8 .w5 => some .rescale8To5
  | .rescale .w8 .w6 => some .rescale8To6
  | .rescale .w8 .w8 => some .rescale8To8
  | .rescale .w8 .w16 => some .rescale8To16
  | .rescale .w16 .w2 => some .rescale16To2
  | .rescale .w16 .w3 => some .rescale16To3
  | .rescale .w16 .w5 => some .rescale16To5
  | .rescale .w16 .w6 => some .rescale16To6
  | .rescale .w16 .w8 => some .rescale16To8
  | .rescale .w16 .w16 => some .rescale16To16
  | .slut .w2 .w5 => some .slut2To5
  | .slut .w2 .w8 => some .slut2To8
  | .slut .w2 .w16 => some .slut2To16
  | .slut .w3 .w5 => some .slut3To5
  | .slut .w3 .w6 => some .slut3To6
  | .slut .w3 .w8 => some .slut3To8
  | .slut .w3 .w16 => some .slut3To16
  | .slut .w5 .w8 => some .slut5To8
  | .slut .w5 .w16 => some .slut5To16
  | .slut .w6 .w8 => some .slut6To8
  | .slut .w6 .w16 => some .slut6To16
  | .gamma8 => some .gamma8
  | .gamma16 => some .gamma16
  | .cc .narrow8 .standard24 => some .ccNarrow8Standard24
  | .cc .narrow8 .wide48 => some .ccNarrow8Wide48
  | .cc .mid16 .standard24 => some .ccMid16Standard24
  | .cc .mid16 .wide48 => some .ccMid16Wide48
  | .cc .standard24 .standard24 => some .ccStandard24Standard24
  | .cc .standard24 .wide48 => some .ccStandard24Wide48
  | .cc .wide48 .standard24 => some .ccWide48Standard24
  | .cc .wide48 .wide48 => some .ccWide48Wide48
  | .bgbuild => some .bgbuild
  | .bgread => some .bgread
  | .stat => some .stat
  | .rescale _ _ => none
  | .slut _ _ => none
  | .cc _ _ => none

/-- How the assembler spells a format (30_encoding.md R73). -/
def Format.asm : Format → String
  | .narrow8 => "narrow8"
  | .mid16 => "mid16"
  | .standard24 => "standard24"
  | .wide48 => "wide48"

/-- How the assembler spells a width: in decimal (30_encoding.md R73). -/
def Width.asm : Width → String
  | .w2 => "2"
  | .w3 => "3"
  | .w5 => "5"
  | .w6 => "6"
  | .w8 => "8"
  | .w16 => "16"

/-- The assembler line of a command (30_encoding.md R73). -/
def Op.asm : Op → String
  | .conv s d => "CONV " ++ s.asm ++ ", " ++ d.asm
  | .mkraw f => "MKRAW " ++ f.asm
  | .mknorm f => "MKNORM " ++ f.asm
  | .rescale a b => "RESCALE " ++ a.asm ++ ", " ++ b.asm
  | .slut a b => "SLUT " ++ a.asm ++ ", " ++ b.asm
  | .gamma8 => "GAMMA8"
  | .gamma16 => "GAMMA16"
  | .cc s d => "CC " ++ s.asm ++ ", " ++ d.asm
  | .bgbuild => "BGBUILD"
  | .bgread => "BGREAD"
  | .stat => "STAT"

/-- The pseudo-instructions of 30_encoding.md R74. -/
inductive Pseudo where
  | copy (f : Format)
  | widen8to16
  | gamma24
  | gamma48
  | bgwait
  deriving DecidableEq, Repr

/-- The instruction a pseudo-instruction stands for (30_encoding.md R74); BGWAIT is this one, issued by the host again
and again until bit 0 of `dout` is 0. -/
def Pseudo.expand : Pseudo → Instr
  | .copy .narrow8 => .convNarrow8Narrow8
  | .copy .mid16 => .convMid16Mid16
  | .copy .standard24 => .convStandard24Standard24
  | .copy .wide48 => .convWide48Wide48
  | .widen8to16 => .rescale8To16
  | .gamma24 => .ccStandard24Standard24
  | .gamma48 => .ccStandard24Wide48
  | .bgwait => .stat

end Sys2Proof
end

