-- ==== Sys2Proof/WellFormed.lean ====
section
/-! DEFINITION. Which operations are legal commands: the width pairs of spec 30_encoding.md R66 and the CC destinations
of R65 and R67. Format fields and the operations without a field are always legal (R61, R65). -/

namespace Sys2Proof

/-- The legal RESCALE pairs of R66: equal, narrowing, a scale table, or (8, 16). -/
def rescalePairLegal (a b : Width) : Bool :=
  a == b || decide (b.bits < a.bits) || (scaleTable? a b).isSome || (a == .w8 && b == .w16)

/-- The legal SLUT pairs of R66: exactly the 11 scale tables. -/
def slutPairLegal (a b : Width) : Bool := (scaleTable? a b).isSome

/-- The legal CC destinations of R65: standard24 and wide48. -/
def ccDestinationLegal (dst : Format) : Bool := dst == .standard24 || dst == .wide48

/-- The operation is one of the 81 legal commands (R65 to R67). -/
def Op.wf : Op → Bool
  | .conv _ _ => true
  | .mkraw _ => true
  | .mknorm _ => true
  | .rescale a b => rescalePairLegal a b
  | .slut a b => slutPairLegal a b
  | .gamma8 => true
  | .gamma16 => true
  | .cc _ dst => ccDestinationLegal dst
  | .bgbuild => true
  | .bgread => true
  | .stat => true

/-- An instruction is well formed when its operation is. -/
def Instr.wf (i : Instr) : Bool := i.op.wf

end Sys2Proof
end

