-- ==== Sys2Proof/Decode.lean ====
section
/-! DEFINITION. Decoding a 16-bit command word, total, every word either one of the 81 legal commands or refused by
name (spec 30_encoding.md R60 to R69), and after it the encoder, from the match column of R65. -/

namespace Sys2Proof

/-- Why a command word is illegal (30_encoding.md R67). The machine records only ILLEGAL_CMD (60_exceptions.md R192); the name
is the model's own (log 19). -/
inductive Reject where
  /-- `op` is 0xB to 0xF. -/
  | reservedOpcode
  /-- A bit that the word's format marks 0 is 1. -/
  | reservedBits
  /-- A width code is 6 or 7. -/
  | reservedWidthCode
  /-- A RESCALE pair that R66 does not list. -/
  | noRescaleRule
  /-- A SLUT pair that is no scale table. -/
  | noScaleTable
  /-- A CC destination of narrow8 or mid16. -/
  | ccDestination
  deriving DecidableEq, Repr

/-- `v[hi:lo]` of 00_scope.md R14, as an unsigned number. -/
def field (hi lo : Nat) (w : Word) : Nat := w.toNat / 2 ^ lo % 2 ^ (hi + 1 - lo)

/-- The format of a 2-bit code (30_encoding.md R61: every 2-bit value is a format). -/
def formatOfCode (n : Nat) : Format :=
  if n = 0 then .narrow8 else if n = 1 then .mid16 else if n = 2 then .standard24 else .wide48

/-- The width of a 3-bit code, none where it is reserved (30_encoding.md R63). -/
def widthOfCode? : Nat → Option Width
  | 0 => some .w2
  | 1 => some .w3
  | 2 => some .w5
  | 3 => some .w6
  | 4 => some .w8
  | 5 => some .w16
  | _ => none

/-- A word of format F2: source and destination format in bits 11:10 and 9:8, the rest 0 (R62). -/
def decodeF2 (k : Format → Format → Op) (w : Word) : Except Reject Op :=
  if field 7 0 w = 0 then .ok (k (formatOfCode (field 11 10 w)) (formatOfCode (field 9 8 w))) else .error .reservedBits

/-- A word of format F1: one format in bits 11:10, the rest 0 (R62). -/
def decodeF1 (k : Format → Op) (w : Word) : Except Reject Op :=
  if field 9 0 w = 0 then .ok (k (formatOfCode (field 11 10 w))) else .error .reservedBits

/-- A word of format W2: two width codes in bits 11:9 and 8:6, the rest 0 (R62). -/
def decodeW2 (k : Width → Width → Op) (w : Word) : Except Reject Op :=
  if field 5 0 w = 0 then
    match widthOfCode? (field 11 9 w), widthOfCode? (field 8 6 w) with
    | some a, some b => .ok (k a b)
    | _, _ => .error .reservedWidthCode
  else .error .reservedBits

/-- A word of format N: no field, bits 11:0 are 0 (R62). -/
def decodeN (o : Op) (w : Word) : Except Reject Op :=
  if field 11 0 w = 0 then .ok o else .error .reservedBits

/-- The operation a word names, by its major opcode (R65). -/
def decodeOp (w : Word) : Except Reject Op :=
  match field 15 12 w with
  | 0 => decodeF2 .conv w
  | 1 => decodeF1 .mkraw w
  | 2 => decodeF1 .mknorm w
  | 3 => decodeW2 .rescale w
  | 4 => decodeW2 .slut w
  | 5 => decodeN .gamma8 w
  | 6 => decodeN .gamma16 w
  | 7 => decodeF2 .cc w
  | 8 => decodeN .bgbuild w
  | 9 => decodeN .bgread w
  | 10 => decodeN .stat w
  | _ => .error .reservedOpcode

/-- The name under which an operation that is no legal command is refused (R66, R67). -/
def Op.rejectReason : Op → Reject
  | .rescale _ _ => .noRescaleRule
  | .slut _ _ => .noScaleTable
  | .cc _ _ => .ccDestination
  | _ => .reservedBits

/-- The decoder (R69): one of the 81 legal commands, or refused by name. -/
def decode (w : Word) : Except Reject Instr :=
  match decodeOp w with
  | .error r => .error r
  | .ok o =>
    match o.instr? with
    | some i => .ok i
    | none => .error o.rejectReason

/-- The word of an operation: the match column of R65. -/
def encodeOp : Op → Nat
  | .conv src dst => 0x0000 + src.code * 2 ^ 10 + dst.code * 2 ^ 8
  | .mkraw fmt => 0x1000 + fmt.code * 2 ^ 10
  | .mknorm fmt => 0x2000 + fmt.code * 2 ^ 10
  | .rescale a b => 0x3000 + a.code * 2 ^ 9 + b.code * 2 ^ 6
  | .slut a b => 0x4000 + a.code * 2 ^ 9 + b.code * 2 ^ 6
  | .gamma8 => 0x5000
  | .gamma16 => 0x6000
  | .cc src dst => 0x7000 + src.code * 2 ^ 10 + dst.code * 2 ^ 8
  | .bgbuild => 0x8000
  | .bgread => 0x9000
  | .stat => 0xA000

/-- The encoder: the command word of an instruction (R60, R65). -/
def encode (i : Instr) : Word := BitVec.ofNat 16 (encodeOp i.op)

/-- The command word an opcode-table word of `nbits` bits stands for: PFMC's words are one 16-bit word (R60), bits above
`nbits` are 0 (log 17). -/
def tableWord (nbits w : Nat) : Word := BitVec.ofNat 16 (w % 2 ^ nbits)

/-- The instruction the decoder reads from an opcode-table word; none where it refuses, and none for a word longer than PFMC's one
16-bit word (R60, R70; log 17). -/
def decodeTableWord (nbits w : Nat) : Option Instr :=
  if 16 < nbits then none
  else
    match decode (tableWord nbits w) with
    | .ok i => some i
    | .error _ => none

end Sys2Proof
end

