-- ==== Sys2Proof/Machine/Memory.lean ====
section
/-! DEFINITION. The one writable space, BGLUT (spec 10_state.md R26; 20_memory.md R40): 256 entries of 16 bits or ⊥, the unit one
whole entry (R41, R43). Held as a list of (index, entry) pairs in one canonical form: indices strictly rising, each below 256; an
index that is not listed holds ⊥ (log 18). -/

namespace Sys2Proof.Machine

/-- The listed entries of BGLUT, by index. -/
abbrev Memory := List (Nat × Word)

/-- What an unlisted index reads as: ⊥, never written since reset (10_state.md R26, R34). -/
def Memory.unlisted : Option Word := none

/-- Read one whole entry (20_memory.md R43). -/
def Memory.read : Memory → Nat → Option Word
  | [], _ => Memory.unlisted
  | (k, v) :: m, i => if k = i then some v else Memory.read m i

/-- Write one whole entry (20_memory.md R43), the list kept rising. -/
def Memory.write : Memory → Nat → Word → Memory
  | [], i, v => [(i, v)]
  | (k, u) :: m, i, v =>
    if i < k then (i, v) :: (k, u) :: m
    else if k = i then (i, v) :: m
    else (k, u) :: Memory.write m i v

/-- The canonical form: indices strictly rising and each an index of the space, 0 to 255 (20_memory.md R45). -/
def Memory.wf (m : Memory) : Bool :=
  decide ((m.map Prod.fst).Pairwise (· < ·)) && m.all fun c => decide (c.1 < 256)

end Sys2Proof.Machine
end

