-- ==== Sys2Proof/Machine/Rom.lean ====
section
/-! DEFINITION. The read-only tables (spec 10_state.md R24, R25): the 11 scale tables with their contents
(41_conversion.md R107), and the two gamma tables, whose interior the spec leaves open: free entries brought within the limits
of 42_gamma.md R141 and R142 (log 7). -/

namespace Sys2Proof.Machine

/-- SCALE[n→m]: `2^n` entries of `m` bits each (10_state.md R24). -/
structure ScaleRom where
  t2to5 : Vector (BitVec 5) 4
  t2to8 : Vector (BitVec 8) 4
  t2to16 : Vector (BitVec 16) 4
  t3to5 : Vector (BitVec 5) 8
  t3to6 : Vector (BitVec 6) 8
  t3to8 : Vector (BitVec 8) 8
  t3to16 : Vector (BitVec 16) 8
  t5to8 : Vector (BitVec 8) 32
  t5to16 : Vector (BitVec 16) 32
  t6to8 : Vector (BitVec 8) 64
  t6to16 : Vector (BitVec 16) 64
  deriving DecidableEq, Repr

/-- The contents of the scale tables, as 41_conversion.md R107 lists them (log 8). -/
def scaleContents : ScaleRom where
  t2to5 := #v[0, 10, 21, 31]
  t2to8 := #v[0, 85, 170, 255]
  t2to16 := #v[0, 21845, 43690, 65535]
  t3to5 := #v[0, 4, 9, 13, 18, 22, 27, 31]
  t3to6 := #v[0, 9, 18, 27, 36, 45, 54, 63]
  t3to8 := #v[0, 36, 73, 109, 146, 182, 219, 255]
  t3to16 := #v[0, 9362, 18724, 28086, 37449, 46811, 56173, 65535]
  t5to8 := #v[
      0, 8, 16, 25, 33, 41, 49, 58, 66, 74, 82, 90, 99, 107, 115, 123,
      132, 140, 148, 156, 165, 173, 181, 189, 197, 206, 214, 222, 230, 239, 247, 255]
  t5to16 := #v[
      0, 2114, 4228, 6342, 8456, 10570, 12684, 14798, 16912, 19026, 21140, 23254, 25368, 27482, 29596, 31710,
      33825, 35939, 38053, 40167, 42281, 44395, 46509, 48623, 50737, 52851, 54965, 57079, 59193, 61307, 63421, 65535]
  t6to8 := #v[
      0, 4, 8, 12, 16, 20, 24, 28, 32, 36, 40, 45, 49, 53, 57, 61,
      65, 69, 73, 77, 81, 85, 89, 93, 97, 101, 105, 109, 113, 117, 121, 125,
      130, 134, 138, 142, 146, 150, 154, 158, 162, 166, 170, 174, 178, 182, 186, 190,
      194, 198, 202, 206, 210, 215, 219, 223, 227, 231, 235, 239, 243, 247, 251, 255]
  t6to16 := #v[
      0, 1040, 2080, 3121, 4161, 5201, 6241, 7282, 8322, 9362, 10402, 11443, 12483, 13523, 14563, 15604,
      16644, 17684, 18724, 19765, 20805, 21845, 22885, 23925, 24966, 26006, 27046, 28086, 29127, 30167, 31207, 32247,
      33288, 34328, 35368, 36408, 37449, 38489, 39529, 40569, 41610, 42650, 43690, 44730, 45770, 46811, 47851, 48891,
      49931, 50972, 52012, 53052, 54092, 55133, 56173, 57213, 58253, 59294, 60334, 61374, 62414, 63455, 64495, 65535]

/-- Entry `i` of a scale table, none where `i` is outside it (20_memory.md R45). -/
def ScaleRom.entry (rom : ScaleRom) (t : ScaleTable) (i : Nat) : Option Nat :=
  match t with
  | .t2to5 => (rom.t2to5[i]?).map BitVec.toNat
  | .t2to8 => (rom.t2to8[i]?).map BitVec.toNat
  | .t2to16 => (rom.t2to16[i]?).map BitVec.toNat
  | .t3to5 => (rom.t3to5[i]?).map BitVec.toNat
  | .t3to6 => (rom.t3to6[i]?).map BitVec.toNat
  | .t3to8 => (rom.t3to8[i]?).map BitVec.toNat
  | .t3to16 => (rom.t3to16[i]?).map BitVec.toNat
  | .t5to8 => (rom.t5to8[i]?).map BitVec.toNat
  | .t5to16 => (rom.t5to16[i]?).map BitVec.toNat
  | .t6to8 => (rom.t6to8[i]?).map BitVec.toNat
  | .t6to16 => (rom.t6to16[i]?).map BitVec.toNat

/-- The formula of 41_conversion.md R106 in integer arithmetic, what R107 computes the contents from. -/
def scaleFormula (n m i : Nat) : Nat := (2 * i * (2 ^ m - 1) + (2 ^ n - 1)) / (2 * (2 ^ n - 1))

/-- The greatest of `f 1 … f i`, and 0 at 0: any `f` made non-decreasing from 0. -/
def runningMax (f : Nat → Nat) : Nat → Nat
  | 0 => 0
  | i + 1 => max (runningMax f i) (f (i + 1))

/-- A GAMMA8 table within R141 from any numbers: 0 at 0, at most 252, non-decreasing. Numbers that already are such a
table come out unchanged (`Laws.gamma8Table_of_admissible`), so every table R141 allows is one of these. -/
def gamma8Table (free : Nat → Nat) : Vector (BitVec 8) 256 :=
  Vector.ofFn fun i => BitVec.ofNat 8 (runningMax (fun j => min 252 (free j)) i.val)

/-- A GAMMA16 table within R142 from any numbers: 0 at 0, 65535 at 255, non-decreasing. Numbers that already are such a
table come out unchanged (`Laws.gamma16Table_of_admissible`). -/
def gamma16Table (free : Nat → Nat) : Vector (BitVec 16) 256 :=
  Vector.ofFn fun i =>
    if i.val = 255 then 65535#16 else BitVec.ofNat 16 (runningMax (fun j => min 65535 (free j)) i.val)

/-- GAMMA8_ROM: a table of which only R141 is known. -/
def gamma8Rom : Vector (BitVec 8) 256 := gamma8Table Config.gamma8Free

/-- GAMMA16_ROM: a table of which only R142 is known. -/
def gamma16Rom : Vector (BitVec 16) 256 := gamma16Table Config.gamma16Free

end Sys2Proof.Machine
end

