-- ==== Sys2Proof/Machine/State.lean ====
section
/-! DEFINITION. The state of PFMC (spec 10_state.md R20), the two fields the model adds (the arguments of the command step, R29,
and the outside world's script, 20_memory.md R47), the stops, and the state after reset (R34). -/

namespace Sys2Proof.Machine

/-- A pixel on an output bus: a format and three zero-extended channels (10_state.md R28). -/
structure Pixel where
  fmt : Format
  r : Word
  g : Word
  b : Word
  deriving DecidableEq, Repr

/-- The three values of the `pix_in` bus (10_state.md R29). -/
structure Channels where
  r : Word
  g : Word
  b : Word
  deriving DecidableEq, Repr

/-- The three exact rationals of the `norm_in` bus (10_state.md R29). -/
structure NormIn where
  r : Rat
  g : Rat
  b : Rat
  deriving DecidableEq, Repr

/-- One command step's arguments (10_state.md R29): the port it is issued on, the command word and the data buses. -/
structure Issue where
  port   : Nat
  cmd    : Word
  pixIn  : Channels
  din    : Word
  normIn : NormIn
  deriving DecidableEq, Repr

/-- The output buses of one port, each a value or ⊥ (10_state.md R28). -/
structure PortOut where
  pix  : Option Pixel
  dout : Option Word
  deriving DecidableEq, Repr

/-- What the outside world makes the machine do next (20_memory.md R47; log 1): a command on a port, one step of the build
agent, whose `pick` says which pending index it takes (43_background.md R163: the order is open; log 5), or reset (70_reset_and_hazards.md R220;
log 14). -/
inductive Event where
  | command (issue : Issue)
  | buildAgent (pick : Nat)
  | reset
  deriving DecidableEq, Repr

/-- Where a fault of the spec comes from (60_exceptions.md R192). Such a fault is a NEXT state (R191), not a stop. -/
inductive Cause where
  | illegalCmd
  | chanRange
  | ccDomain
  | normDomain
  | bgBusy
  | bgUnwritten
  | brightRange
  deriving DecidableEq, Repr

/-- The table spaces (20_memory.md R40). -/
inductive Space where
  | scale (t : ScaleTable)
  | gamma8
  | gamma16
  | bglut
  deriving DecidableEq, Repr

/-- Which output bus a command would have written (60_exceptions.md R191): a fault sets it to ⊥. -/
inductive Target where
  | pix
  | dout
  | both
  | neither
  deriving DecidableEq, Repr

/-- The model's own stops. No instruction's meaning raises one. -/
inductive Fault where
  /-- Raised by `fetch`: the script names a port the machine does not have. Safe: the hardware has no such step
  (log 4). -/
  | noSuchPort
  /-- Raised by `agentStep`: a build runs and no brightness is latched. No run reaches it (10_state.md R32). Safe (log 13). -/
  | brightUnset
  deriving DecidableEq, Repr

/-- Why an instruction has no meaning. -/
inductive Refusal where
  /-- Raised by `exec` for an instruction not modelled yet; none is left. Safe. -/
  | notModelled (mnemonic : String)
  deriving DecidableEq, Repr

/-- The state of PFMC (10_state.md R20). `ports` has one entry per port, so its length is N_PORTS (20_memory.md R47); the ROMs
are fields that no step changes (R25); `issue` and `script` are the model's own (log 1, log 3). -/
structure State where
  /-- BG_ATOMIC_SWAP and NORM_PRODUCT (00_scope.md R13). -/
  cfg       : Params
  /-- SCALE, 11 tables. -/
  scale     : ScaleRom
  /-- GAMMA8_ROM. -/
  gamma8    : Vector (BitVec 8) 256
  /-- GAMMA16_ROM. -/
  gamma16   : Vector (BitVec 16) 256
  /-- BGLUT. -/
  bglut     : Memory
  /-- bg_busy. -/
  bgBusy    : Bool
  /-- bg_bright, or ⊥. -/
  bgBright  : Option Byte
  /-- bg_pending, rising. -/
  bgPending : List (Fin 256)
  /-- FAULT. -/
  fault     : Bool
  /-- CAUSE. -/
  cause     : BitVec 4
  /-- pix_out and dout of every port. -/
  ports     : List PortOut
  /-- The arguments of the command step. -/
  issue     : Issue
  /-- The steps the outside world has still to make. -/
  script    : List Event
  deriving DecidableEq, Repr

/-- What a meaning answers. -/
abbrev Result := Host.Outcome State Fault Refusal

/-- Every output bus ⊥ (10_state.md R34). -/
def PortOut.empty : PortOut := { pix := none, dout := none }

/-- The input buses before the host has driven them: zeros on port 0 (log 3). -/
def Issue.quiet : Issue :=
  { port := 0, cmd := 0, pixIn := { r := 0, g := 0, b := 0 }, din := 0, normIn := { r := 0, g := 0, b := 0 } }

/-- The machine right after reset (10_state.md R34, 70_reset_and_hazards.md R220 to R222), with the spec's default parameters and nothing
in the script. -/
def State.reset : State where
  cfg := Params.default
  scale := scaleContents
  gamma8 := gamma8Rom
  gamma16 := gamma16Rom
  bglut := []
  bgBusy := false
  bgBright := none
  bgPending := []
  fault := false
  cause := 0
  ports := List.replicate Config.nPortsDefault PortOut.empty
  issue := Issue.quiet
  script := []

end Sys2Proof.Machine
end

