-- ==== Sys2Proof/Machine/Flags.lean ====
section
/-! DEFINITION. PFMC has no arithmetic flags (spec 10_state.md R23). Its only status bits are those of the status word: this file
holds the cause codes (60_exceptions.md R192) and the word (10_state.md R27). -/

namespace Sys2Proof.Machine

/-- The cause codes of 60_exceptions.md R192. -/
def Cause.code : Cause → BitVec 4
  | .illegalCmd => 1
  | .chanRange => 2
  | .ccDomain => 3
  | .normDomain => 4
  | .bgBusy => 5
  | .bgUnwritten => 6
  | .brightRange => 7

/-- The bits of the status word: reserved 15:8, CAUSE 7:4, reserved 3:2, FAULT 1, BUSY 0 (10_state.md R27). -/
def statusBits (cause : BitVec 4) (fault busy : Bool) : Word :=
  0#8 ++ cause ++ 0#2 ++ BitVec.ofBool fault ++ BitVec.ofBool busy

/-- The status word of the machine (10_state.md R27, 44_status.md R180). -/
def statusWord (s : State) : Word := statusBits s.cause s.fault s.bgBusy

end Sys2Proof.Machine
end

