-- ==== Sys2Proof/Machine/Ops.lean ====
section
/-! DEFINITION. The shared operations: reading the tables (spec 20_memory.md R40 to R45), driving the output buses (10_state.md R28),
taking a fault (60_exceptions.md R191; there is no return from one, R202), and the reset action (70_reset_and_hazards.md R220). -/

namespace Sys2Proof.Machine

/-- The state with a command's arguments latched (10_state.md R29; log 3). -/
def withIssue (q : Issue) (s : State) : State := { s with issue := q }

/-- The state with another script (20_memory.md R47; log 1). -/
def withScript (es : List Event) (s : State) : State := { s with script := es }

/-- The answer of a ROM read: an index outside the space faults CHAN_RANGE and reads nothing (20_memory.md R45). -/
def romRead (entry : Option Nat) : Except Cause Word :=
  match entry with
  | some v => .ok (zext16 v)
  | none => .error .chanRange

/-- The answer of a BGLUT read, CHAN_RANGE checked before BG_UNWRITTEN (43_background.md R166, 60_exceptions.md R200). -/
def bglutRead (m : Memory) (i : Nat) : Except Cause Word :=
  if 255 < i then .error .chanRange
  else
    match m.read i with
    | some v => .ok v
    | none => .error .bgUnwritten

/-- `MemRead(S, i)` of 00_scope.md R15, zero-extended to 16 bits. It changes no state (20_memory.md R44). -/
def memRead (sp : Space) (i : Nat) (s : State) : Except Cause Word :=
  match sp with
  | .scale t => romRead (s.scale.entry t i)
  | .gamma8 => romRead ((s.gamma8[i]?).map BitVec.toNat)
  | .gamma16 => romRead ((s.gamma16[i]?).map BitVec.toNat)
  | .bglut => bglutRead s.bglut i

/-- Drive `pix_out` of the issuing port: a pixel, or ⊥ (10_state.md R28). -/
def putPix (v : Option Pixel) (s : State) : State :=
  { s with ports := s.ports.modify s.issue.port fun o => { o with pix := v } }

/-- Drive `dout` of the issuing port: a value, or ⊥ (10_state.md R28). -/
def putDout (v : Option Word) (s : State) : State :=
  { s with ports := s.ports.modify s.issue.port fun o => { o with dout := v } }

/-- The output bus a command writes (30_encoding.md R64): the one its fault sets to ⊥. -/
def targetOf : Op → Target
  | .conv _ _ => .pix
  | .mkraw _ => .pix
  | .mknorm _ => .pix
  | .rescale _ _ => .dout
  | .slut _ _ => .dout
  | .gamma8 => .dout
  | .gamma16 => .dout
  | .cc _ _ => .pix
  | .bgbuild => .neither
  | .bgread => .dout
  | .stat => .dout

/-- Set the target bus of the issuing port to ⊥ (60_exceptions.md R191; no bus for BGBUILD, which writes none, log 12). -/
def invalidate (t : Target) (s : State) : State :=
  match t with
  | .pix => putPix none s
  | .dout => putDout none s
  | .both => putDout none (putPix none s)
  | .neither => s

/-- Record a cause: the first since reset is kept (60_exceptions.md R191). -/
def recordCause (c : Cause) (s : State) : State :=
  if s.fault then s else { s with fault := true, cause := c.code }

/-- TAKING A FAULT, the fault action of 60_exceptions.md R191: FAULT and the first CAUSE, the target bus ⊥, nothing else. There is no
handler, no saved state and no return (R191, R202). -/
def raiseFault (c : Cause) (t : Target) (s : State) : State := recordCause c (invalidate t s)

/-- An illegal command word (30_encoding.md R67, 60_exceptions.md R194): ILLEGAL_CMD, both buses ⊥. -/
def illegalCommand (s : State) : State := raiseFault .illegalCmd .both s

/-- A command that writes `pix_out`: its pixel, or its fault. -/
def pixResult (r : Except Cause Pixel) (s : State) : Result :=
  match r with
  | .ok p => .next (putPix (some p) s)
  | .error c => .next (raiseFault c .pix s)

/-- A command that writes `dout`: its value, or its fault. -/
def doutResult (r : Except Cause Word) (s : State) : Result :=
  match r with
  | .ok v => .next (putDout (some v) s)
  | .error c => .next (raiseFault c .dout s)

/-- Reset as an event: the state of 10_state.md R34 in one step; the ROMs keep their contents (70_reset_and_hazards.md R220, R221), and so
do the parameters and the model's own fields (log 14). -/
def resetAction (s : State) : State :=
  { s with
    bglut := [], bgBusy := false, bgBright := none, bgPending := [], fault := false, cause := 0,
    ports := s.ports.map fun _ => PortOut.empty }

end Sys2Proof.Machine
end

