-- ==== Sys2Proof/Machine/Background.lean ====
section
/-! DEFINITION. The background dimmer: its formula, BGBUILD, the build agent and BGREAD (spec 43_background.md R160 to R166). -/

namespace Sys2Proof.Machine

/-- `bgval(i, B) = (GAMMA16_ROM[i] * B) >> 8` for the entry `g` (43_background.md R160). -/
def bgval (g : Word) (bright : Byte) : Word := zext16 ((g.toNat * bright.toNat) >>> 8)

/-- `bgval(i, B)` with the machine's GAMMA16_ROM. -/
def bgEntry (s : State) (i : Fin 256) (bright : Byte) : Word := bgval s.gamma16[i] bright

/-- Every index of BGLUT, rising: `{0, 1, ..., 255}` of 43_background.md R162. -/
@[irreducible] def allIndices : List (Fin 256) := List.finRange 256

/-- Start a build (43_background.md R162): the brightness latched, every index pending, busy. -/
def startBuild (bright : Byte) (s : State) : State :=
  { s with bgBright := some bright, bgPending := allIndices, bgBusy := true }

/-- `BGBUILD` (43_background.md R162): BG_BUSY before BRIGHT_RANGE (60_exceptions.md R200); it writes no bus, so its faults set none to ⊥
(log 12). -/
def execBgbuild (s : State) : Result :=
  if s.bgBusy then .next (raiseFault .bgBusy .neither s)
  else if 255 < s.issue.din.toNat then .next (raiseFault .brightRange .neither s)
  else .next (startBuild (BitVec.ofNat 8 s.issue.din.toNat) s)

/-- The pending index an agent step takes: any, as `pick` says (43_background.md R163: the order is open; log 5). -/
def choosePending (pending : List (Fin 256)) (pick : Nat) : Option (Fin 256) := pending[pick % pending.length]?

/-- One entry of a build (43_background.md R163). -/
def writeEntry (i : Fin 256) (bright : Byte) (s : State) : State :=
  { s with
    bglut := s.bglut.write i.val (bgEntry s i bright)
    bgPending := s.bgPending.erase i
    bgBusy := if s.bgPending.erase i = [] then false else s.bgBusy }

/-- Write the entries of a list of indices, in its order. -/
def writeAll (s : State) (bright : Byte) : List (Fin 256) → Memory → Memory
  | [], m => m
  | i :: is, m => writeAll s bright is (m.write i.val (bgEntry s i bright))

/-- The whole build in one step, BG_ATOMIC_SWAP true (43_background.md R164). -/
def swapTable (bright : Byte) (s : State) : State :=
  { s with bglut := writeAll s bright allIndices s.bglut, bgPending := [], bgBusy := false }

/-- One step of the build agent (43_background.md R163, R164). It is enabled only while a build runs; scheduled when it is not enabled it
does nothing (log 6). -/
def agentStep (pick : Nat) (s : State) : Except Fault State :=
  if s.bgBusy then
    match s.bgBright with
    | none => .error .brightUnset
    | some bright =>
      if s.cfg.bgAtomicSwap then .ok (swapTable bright s)
      else
        match choosePending s.bgPending pick with
        | none => .ok s
        | some i => .ok (writeEntry i bright s)
  else .ok s

/-- `BGREAD` (43_background.md R166): one entry; CHAN_RANGE before BG_UNWRITTEN (60_exceptions.md R200). -/
def execBgread (s : State) : Result := doutResult (memRead .bglut s.issue.din.toNat s) s

end Sys2Proof.Machine
end

