-- ==== Sys2Proof/Machine/Operands.lean ====
section
/-! DEFINITION. What commands make of their input buses (spec 30_encoding.md R64): the range of a pixel (10_state.md R30), the mask of a
raw pixel (40_construction.md R80), the product of a normalized component (R81 to R83), and the host's packed pixel words
(30_encoding.md R71, R72). -/

namespace Sys2Proof.Machine

/-- `pix_in` is a pixel of the format: each channel below `2^w` (10_state.md R30). -/
def Channels.fits (f : Format) (c : Channels) : Bool :=
  decide (c.r.toNat < 2 ^ f.red.bits) && decide (c.g.toNat < 2 ^ f.green.bits) && decide (c.b.toNat < 2 ^ f.blue.bits)

/-- A pixel is a pixel of its format (10_state.md R30). -/
def Pixel.fits (p : Pixel) : Bool := Channels.fits p.fmt { r := p.r, g := p.g, b := p.b }

/-- Raw construction: each channel mod `2^w` (40_construction.md R80). -/
def maskPixel (f : Format) (c : Channels) : Pixel :=
  { fmt := f
    r := zext16 (c.r.toNat % 2 ^ f.red.bits)
    g := zext16 (c.g.toNat % 2 ^ f.green.bits)
    b := zext16 (c.b.toNat % 2 ^ f.blue.bits) }

/-- A component is in [0, 1] (40_construction.md R82): `0 ≤ num` and `num ≤ den`. -/
def inUnit (x : Rat) : Bool := decide (0 ≤ x.num) && decide (x.num ≤ x.den)

/-- Every component of `norm_in` is in [0, 1] (40_construction.md R82). -/
def NormIn.inUnit (n : NormIn) : Bool := Machine.inUnit n.r && Machine.inUnit n.g && Machine.inUnit n.b

/-- The default NORM_PRODUCT, `floor(x * (2^w − 1))` computed exactly (40_construction.md R81, R83). -/
def exactFloor (x : Rat) (bits : Nat) : Nat := x.num.toNat * (2 ^ bits - 1) / x.den

/-- Another implementation's NORM_PRODUCT: 0 at 0, `2^w − 1` at 1, below `2^w`, else free (40_construction.md R83; log 9). -/
def implementationProduct (x : Rat) (bits : Nat) : Nat :=
  if x = 0 then 0
  else if x = 1 then 2 ^ bits - 1
  else Config.normProductFree x bits % 2 ^ bits

/-- NORM_PRODUCT of the machine (40_construction.md R83). -/
def normProduct (p : NormProduct) (x : Rat) (w : Width) : Nat :=
  match p with
  | .exactFloor => exactFloor x w.bits
  | .implementation => implementationProduct x w.bits

/-- Normalized construction: NORM_PRODUCT of each component at its channel's width (40_construction.md R81). -/
def normPixel (p : NormProduct) (f : Format) (n : NormIn) : Pixel :=
  { fmt := f
    r := zext16 (normProduct p n.r f.red)
    g := zext16 (normProduct p n.g f.green)
    b := zext16 (normProduct p n.b f.blue) }

/-- The width of a format's packed word (30_encoding.md R71). -/
def packedBits (f : Format) : Nat := f.red.bits + f.green.bits + f.blue.bits

/-- `pack(f, r, g, b) = {r, g, b}`, red in the high bits (30_encoding.md R71); host-side, no command uses it. -/
def pack (p : Pixel) : Nat :=
  p.r.toNat * 2 ^ (p.fmt.green.bits + p.fmt.blue.bits) + p.g.toNat * 2 ^ p.fmt.blue.bits + p.b.toNat

/-- The inverse of `pack` on the pixels of a format (30_encoding.md R71). -/
def unpack (f : Format) (n : Nat) : Pixel :=
  { fmt := f
    r := zext16 (n / 2 ^ (f.green.bits + f.blue.bits) % 2 ^ f.red.bits)
    g := zext16 (n / 2 ^ f.blue.bits % 2 ^ f.green.bits)
    b := zext16 (n % 2 ^ f.blue.bits) }

/-- The bytes of a number, least significant first. -/
def bytesOf (n : Nat) : Nat → List Byte
  | 0 => []
  | k + 1 => BitVec.ofNat 8 n :: bytesOf (n / 256) k

/-- A packed pixel word as a host stores it in byte memory, first byte at the lowest address (30_encoding.md R72; log 15). -/
def packBytes (o : PackByteOrder) (p : Pixel) : List Byte :=
  match o with
  | .little => bytesOf (pack p) (packedBits p.fmt / 8)
  | .big => (bytesOf (pack p) (packedBits p.fmt / 8)).reverse

end Sys2Proof.Machine
end

