-- ==== Sys2Proof/Machine/Construct.lean ====
section
/-! DEFINITION. Pixel construction: MKRAW and MKNORM (spec 40_construction.md R80 to R91). -/

namespace Sys2Proof.Machine

/-- MKRAW of a format: every raw channel keeps its low `w` bits; no input is out of range (R80). -/
def mkraw (fmt : Format) (s : State) : Result := pixResult (.ok (maskPixel fmt s.issue.pixIn)) s

/-- MKNORM of a format: NORM_DOMAIN unless every component is in [0, 1] (R82), else NORM_PRODUCT of each (R81). -/
def mknorm (fmt : Format) (s : State) : Result :=
  pixResult (if s.issue.normIn.inUnit then .ok (normPixel s.cfg.normProduct fmt s.issue.normIn) else .error .normDomain) s

/-- `MKRAW narrow8` (40_construction.md R84). -/
def execMkrawNarrow8 (s : State) : Result := mkraw .narrow8 s

/-- `MKRAW mid16` (40_construction.md R85). -/
def execMkrawMid16 (s : State) : Result := mkraw .mid16 s

/-- `MKRAW standard24` (40_construction.md R86). -/
def execMkrawStandard24 (s : State) : Result := mkraw .standard24 s

/-- `MKRAW wide48` (40_construction.md R87). -/
def execMkrawWide48 (s : State) : Result := mkraw .wide48 s

/-- `MKNORM narrow8` (40_construction.md R88). -/
def execMknormNarrow8 (s : State) : Result := mknorm .narrow8 s

/-- `MKNORM mid16` (40_construction.md R89). -/
def execMknormMid16 (s : State) : Result := mknorm .mid16 s

/-- `MKNORM standard24` (40_construction.md R90). -/
def execMknormStandard24 (s : State) : Result := mknorm .standard24 s

/-- `MKNORM wide48` (40_construction.md R91). -/
def execMknormWide48 (s : State) : Result := mknorm .wide48 s

end Sys2Proof.Machine
end

