-- ==== Sys2Proof/Machine/Rescaler.lean ====
section
/-! DEFINITION. The channel-width rescaler (spec 41_conversion.md R100 to R105). -/

namespace Sys2Proof.Machine

/-- `rescale(v, a, b)` of 41_conversion.md R105, in its order: identity (R101), narrowing (R102), byte replication (R104), scale table
(R103). A pair without meaning is an illegal command (30_encoding.md R66, R67); no command calls it so (log 22). -/
def rescale (a b : Width) (v : Nat) (s : State) : Except Cause Word :=
  if a = b then .ok (zext16 v)
  else if b.bits < a.bits then .ok (zext16 (v >>> (a.bits - b.bits)))
  else if a = .w8 ∧ b = .w16 then .ok (zext16 ((v <<< 8) ||| v))
  else
    match scaleTable? a b with
    | some t => memRead (.scale t) v s
    | none => .error .illegalCmd

end Sys2Proof.Machine
end

