-- ==== Sys2Proof/Machine/Convert.lean ====
section
/-! DEFINITION. The 16 directed format conversions (spec 41_conversion.md R108, R111 to R126). -/

namespace Sys2Proof.Machine

/-- The three lanes of a conversion, each rescaled on its own (R108). -/
def convLanes (src dst : Format) (c : Channels) (s : State) : Except Cause Pixel :=
  match rescale src.red dst.red c.r.toNat s, rescale src.green dst.green c.g.toNat s,
    rescale src.blue dst.blue c.b.toNat s with
  | .ok r, .ok g, .ok b => .ok { fmt := dst, r := r, g := g, b := b }
  | .error e, _, _ => .error e
  | .ok _, .error e, _ => .error e
  | .ok _, .ok _, .error e => .error e

/-- CONV: CHAN_RANGE unless `pix_in` is a pixel of the source format, else the three lanes (section 4). -/
def convert (src dst : Format) (s : State) : Result :=
  pixResult (if s.issue.pixIn.fits src then convLanes src dst s.issue.pixIn s else .error .chanRange) s

/-- `CONV narrow8, narrow8` (41_conversion.md R111). -/
def execConvNarrow8Narrow8 (s : State) : Result := convert .narrow8 .narrow8 s

/-- `CONV narrow8, mid16` (41_conversion.md R112). -/
def execConvNarrow8Mid16 (s : State) : Result := convert .narrow8 .mid16 s

/-- `CONV narrow8, standard24` (41_conversion.md R113). -/
def execConvNarrow8Standard24 (s : State) : Result := convert .narrow8 .standard24 s

/-- `CONV narrow8, wide48` (41_conversion.md R114). -/
def execConvNarrow8Wide48 (s : State) : Result := convert .narrow8 .wide48 s

/-- `CONV mid16, narrow8` (41_conversion.md R115). -/
def execConvMid16Narrow8 (s : State) : Result := convert .mid16 .narrow8 s

/-- `CONV mid16, mid16` (41_conversion.md R116). -/
def execConvMid16Mid16 (s : State) : Result := convert .mid16 .mid16 s

/-- `CONV mid16, standard24` (41_conversion.md R117). -/
def execConvMid16Standard24 (s : State) : Result := convert .mid16 .standard24 s

/-- `CONV mid16, wide48` (41_conversion.md R118). -/
def execConvMid16Wide48 (s : State) : Result := convert .mid16 .wide48 s

/-- `CONV standard24, narrow8` (41_conversion.md R119). -/
def execConvStandard24Narrow8 (s : State) : Result := convert .standard24 .narrow8 s

/-- `CONV standard24, mid16` (41_conversion.md R120). -/
def execConvStandard24Mid16 (s : State) : Result := convert .standard24 .mid16 s

/-- `CONV standard24, standard24` (41_conversion.md R121). -/
def execConvStandard24Standard24 (s : State) : Result := convert .standard24 .standard24 s

/-- `CONV standard24, wide48` (41_conversion.md R122). -/
def execConvStandard24Wide48 (s : State) : Result := convert .standard24 .wide48 s

/-- `CONV wide48, narrow8` (41_conversion.md R123). -/
def execConvWide48Narrow8 (s : State) : Result := convert .wide48 .narrow8 s

/-- `CONV wide48, mid16` (41_conversion.md R124). -/
def execConvWide48Mid16 (s : State) : Result := convert .wide48 .mid16 s

/-- `CONV wide48, standard24` (41_conversion.md R125). -/
def execConvWide48Standard24 (s : State) : Result := convert .wide48 .standard24 s

/-- `CONV wide48, wide48` (41_conversion.md R126). -/
def execConvWide48Wide48 (s : State) : Result := convert .wide48 .wide48 s

end Sys2Proof.Machine
end

