-- ==== Sys2Proof/Machine/Gamma.lean ====
section
/-! DEFINITION. The gamma tables and colour correction: GAMMA8, GAMMA16 and CC (spec 42_gamma.md R143 to R147). -/

namespace Sys2Proof.Machine

/-- The three lanes of a colour correction: GAMMA16 of each channel, shifted right (R145: by 8; R146: by 0). -/
def colorLanes (dst : Format) (shift : Nat) (c : Channels) (s : State) : Except Cause Pixel :=
  match memRead .gamma16 c.r.toNat s, memRead .gamma16 c.g.toNat s, memRead .gamma16 c.b.toNat s with
  | .ok r, .ok g, .ok b => .ok { fmt := dst, r := r >>> shift, g := g >>> shift, b := b >>> shift }
  | .error e, _, _ => .error e
  | .ok _, .error e, _ => .error e
  | .ok _, .ok _, .error e => .error e

/-- CC of a standard24 pixel: CHAN_RANGE unless every channel is below 256, else the three lanes (R145, R146). -/
def colorCorrect (dst : Format) (shift : Nat) (s : State) : Result :=
  pixResult (if s.issue.pixIn.fits .standard24 then colorLanes dst shift s.issue.pixIn s else .error .chanRange) s

/-- CC of any other source format: CC_DOMAIN, whatever the channels (R147). -/
def colorReject (s : State) : Result := pixResult (.error .ccDomain) s

/-- `GAMMA8` (42_gamma.md R143): entry `din`; an index above 255 faults CHAN_RANGE in `memRead`. -/
def execGamma8 (s : State) : Result := doutResult (memRead .gamma8 s.issue.din.toNat s) s

/-- `GAMMA16` (42_gamma.md R144): entry `din`; an index above 255 faults CHAN_RANGE in `memRead`. -/
def execGamma16 (s : State) : Result := doutResult (memRead .gamma16 s.issue.din.toNat s) s

/-- `CC narrow8, standard24` (42_gamma.md R147). -/
def execCcNarrow8Standard24 (s : State) : Result := colorReject s

/-- `CC narrow8, wide48` (42_gamma.md R147). -/
def execCcNarrow8Wide48 (s : State) : Result := colorReject s

/-- `CC mid16, standard24` (42_gamma.md R147). -/
def execCcMid16Standard24 (s : State) : Result := colorReject s

/-- `CC mid16, wide48` (42_gamma.md R147). -/
def execCcMid16Wide48 (s : State) : Result := colorReject s

/-- `CC standard24, standard24` (42_gamma.md R145). -/
def execCcStandard24Standard24 (s : State) : Result := colorCorrect .standard24 8 s

/-- `CC standard24, wide48` (42_gamma.md R146). -/
def execCcStandard24Wide48 (s : State) : Result := colorCorrect .wide48 0 s

/-- `CC wide48, standard24` (42_gamma.md R147). -/
def execCcWide48Standard24 (s : State) : Result := colorReject s

/-- `CC wide48, wide48` (42_gamma.md R147). -/
def execCcWide48Wide48 (s : State) : Result := colorReject s

end Sys2Proof.Machine
end

