-- ==== Sys2Proof/Machine/Rescale.lean ====
section
/-! DEFINITION. RESCALE, one channel value through the rescaler (spec 41_conversion.md R110), and SLUT, one entry of a
scale table (R109). -/

namespace Sys2Proof.Machine

/-- RESCALE: CHAN_RANGE unless `din` is a channel value of width `a`, else its rescaled value (R110). -/
def rescaleCommand (a b : Width) (s : State) : Result :=
  doutResult (if s.issue.din.toNat < 2 ^ a.bits then rescale a b s.issue.din.toNat s else .error .chanRange) s

/-- SLUT: the entry `din` of a scale table; an index outside the table faults CHAN_RANGE in `memRead` (R109, 20_memory.md
R45). -/
def scaleRead (t : ScaleTable) (s : State) : Result := doutResult (memRead (.scale t) s.issue.din.toNat s) s

/-- `RESCALE 2, 2` (41_conversion.md R110). -/
def execRescale2To2 (s : State) : Result := rescaleCommand .w2 .w2 s

/-- `RESCALE 2, 5` (41_conversion.md R110). -/
def execRescale2To5 (s : State) : Result := rescaleCommand .w2 .w5 s

/-- `RESCALE 2, 8` (41_conversion.md R110). -/
def execRescale2To8 (s : State) : Result := rescaleCommand .w2 .w8 s

/-- `RESCALE 2, 16` (41_conversion.md R110). -/
def execRescale2To16 (s : State) : Result := rescaleCommand .w2 .w16 s

/-- `RESCALE 3, 2` (41_conversion.md R110). -/
def execRescale3To2 (s : State) : Result := rescaleCommand .w3 .w2 s

/-- `RESCALE 3, 3` (41_conversion.md R110). -/
def execRescale3To3 (s : State) : Result := rescaleCommand .w3 .w3 s

/-- `RESCALE 3, 5` (41_conversion.md R110). -/
def execRescale3To5 (s : State) : Result := rescaleCommand .w3 .w5 s

/-- `RESCALE 3, 6` (41_conversion.md R110). -/
def execRescale3To6 (s : State) : Result := rescaleCommand .w3 .w6 s

/-- `RESCALE 3, 8` (41_conversion.md R110). -/
def execRescale3To8 (s : State) : Result := rescaleCommand .w3 .w8 s

/-- `RESCALE 3, 16` (41_conversion.md R110). -/
def execRescale3To16 (s : State) : Result := rescaleCommand .w3 .w16 s

/-- `RESCALE 5, 2` (41_conversion.md R110). -/
def execRescale5To2 (s : State) : Result := rescaleCommand .w5 .w2 s

/-- `RESCALE 5, 3` (41_conversion.md R110). -/
def execRescale5To3 (s : State) : Result := rescaleCommand .w5 .w3 s

/-- `RESCALE 5, 5` (41_conversion.md R110). -/
def execRescale5To5 (s : State) : Result := rescaleCommand .w5 .w5 s

/-- `RESCALE 5, 8` (41_conversion.md R110). -/
def execRescale5To8 (s : State) : Result := rescaleCommand .w5 .w8 s

/-- `RESCALE 5, 16` (41_conversion.md R110). -/
def execRescale5To16 (s : State) : Result := rescaleCommand .w5 .w16 s

/-- `RESCALE 6, 2` (41_conversion.md R110). -/
def execRescale6To2 (s : State) : Result := rescaleCommand .w6 .w2 s

/-- `RESCALE 6, 3` (41_conversion.md R110). -/
def execRescale6To3 (s : State) : Result := rescaleCommand .w6 .w3 s

/-- `RESCALE 6, 5` (41_conversion.md R110). -/
def execRescale6To5 (s : State) : Result := rescaleCommand .w6 .w5 s

/-- `RESCALE 6, 6` (41_conversion.md R110). -/
def execRescale6To6 (s : State) : Result := rescaleCommand .w6 .w6 s

/-- `RESCALE 6, 8` (41_conversion.md R110). -/
def execRescale6To8 (s : State) : Result := rescaleCommand .w6 .w8 s

/-- `RESCALE 6, 16` (41_conversion.md R110). -/
def execRescale6To16 (s : State) : Result := rescaleCommand .w6 .w16 s

/-- `RESCALE 8, 2` (41_conversion.md R110). -/
def execRescale8To2 (s : State) : Result := rescaleCommand .w8 .w2 s

/-- `RESCALE 8, 3` (41_conversion.md R110). -/
def execRescale8To3 (s : State) : Result := rescaleCommand .w8 .w3 s

/-- `RESCALE 8, 5` (41_conversion.md R110). -/
def execRescale8To5 (s : State) : Result := rescaleCommand .w8 .w5 s

/-- `RESCALE 8, 6` (41_conversion.md R110). -/
def execRescale8To6 (s : State) : Result := rescaleCommand .w8 .w6 s

/-- `RESCALE 8, 8` (41_conversion.md R110). -/
def execRescale8To8 (s : State) : Result := rescaleCommand .w8 .w8 s

/-- `RESCALE 8, 16` (41_conversion.md R110). -/
def execRescale8To16 (s : State) : Result := rescaleCommand .w8 .w16 s

/-- `RESCALE 16, 2` (41_conversion.md R110). -/
def execRescale16To2 (s : State) : Result := rescaleCommand .w16 .w2 s

/-- `RESCALE 16, 3` (41_conversion.md R110). -/
def execRescale16To3 (s : State) : Result := rescaleCommand .w16 .w3 s

/-- `RESCALE 16, 5` (41_conversion.md R110). -/
def execRescale16To5 (s : State) : Result := rescaleCommand .w16 .w5 s

/-- `RESCALE 16, 6` (41_conversion.md R110). -/
def execRescale16To6 (s : State) : Result := rescaleCommand .w16 .w6 s

/-- `RESCALE 16, 8` (41_conversion.md R110). -/
def execRescale16To8 (s : State) : Result := rescaleCommand .w16 .w8 s

/-- `RESCALE 16, 16` (41_conversion.md R110). -/
def execRescale16To16 (s : State) : Result := rescaleCommand .w16 .w16 s

/-- `SLUT 2, 5` (41_conversion.md R109). -/
def execSlut2To5 (s : State) : Result := scaleRead .t2to5 s

/-- `SLUT 2, 8` (41_conversion.md R109). -/
def execSlut2To8 (s : State) : Result := scaleRead .t2to8 s

/-- `SLUT 2, 16` (41_conversion.md R109). -/
def execSlut2To16 (s : State) : Result := scaleRead .t2to16 s

/-- `SLUT 3, 5` (41_conversion.md R109). -/
def execSlut3To5 (s : State) : Result := scaleRead .t3to5 s

/-- `SLUT 3, 6` (41_conversion.md R109). -/
def execSlut3To6 (s : State) : Result := scaleRead .t3to6 s

/-- `SLUT 3, 8` (41_conversion.md R109). -/
def execSlut3To8 (s : State) : Result := scaleRead .t3to8 s

/-- `SLUT 3, 16` (41_conversion.md R109). -/
def execSlut3To16 (s : State) : Result := scaleRead .t3to16 s

/-- `SLUT 5, 8` (41_conversion.md R109). -/
def execSlut5To8 (s : State) : Result := scaleRead .t5to8 s

/-- `SLUT 5, 16` (41_conversion.md R109). -/
def execSlut5To16 (s : State) : Result := scaleRead .t5to16 s

/-- `SLUT 6, 8` (41_conversion.md R109). -/
def execSlut6To8 (s : State) : Result := scaleRead .t6to8 s

/-- `SLUT 6, 16` (41_conversion.md R109). -/
def execSlut6To16 (s : State) : Result := scaleRead .t6to16 s

end Sys2Proof.Machine
end

