-- ==== Sys2Proof/Machine/Status.lean ====
section
/-! DEFINITION. The status read (spec 44_status.md R180). -/

namespace Sys2Proof.Machine

/-- `STAT` (44_status.md R180): the status word of this step on `dout`; it never faults and clears nothing. -/
def execStat (s : State) : Result := .next (putDout (some (statusWord s)) s)

end Sys2Proof.Machine
end

