-- ==== Sys2Proof/Machine/Dispatch.lean ====
section
/-! DEFINITION. One arm per instruction of spec/opcode_table.json (30_encoding.md R65): the meaning it calls. -/

namespace Sys2Proof.Machine

def exec (i : Instr) (s : State) : Host.Outcome State Fault Refusal :=
  match i with
  | .convNarrow8Narrow8 => Sys2Proof.Machine.execConvNarrow8Narrow8 s
  | .convNarrow8Mid16 => Sys2Proof.Machine.execConvNarrow8Mid16 s
  | .convNarrow8Standard24 => Sys2Proof.Machine.execConvNarrow8Standard24 s
  | .convNarrow8Wide48 => Sys2Proof.Machine.execConvNarrow8Wide48 s
  | .convMid16Narrow8 => Sys2Proof.Machine.execConvMid16Narrow8 s
  | .convMid16Mid16 => Sys2Proof.Machine.execConvMid16Mid16 s
  | .convMid16Standard24 => Sys2Proof.Machine.execConvMid16Standard24 s
  | .convMid16Wide48 => Sys2Proof.Machine.execConvMid16Wide48 s
  | .convStandard24Narrow8 => Sys2Proof.Machine.execConvStandard24Narrow8 s
  | .convStandard24Mid16 => Sys2Proof.Machine.execConvStandard24Mid16 s
  | .convStandard24Standard24 => Sys2Proof.Machine.execConvStandard24Standard24 s
  | .convStandard24Wide48 => Sys2Proof.Machine.execConvStandard24Wide48 s
  | .convWide48Narrow8 => Sys2Proof.Machine.execConvWide48Narrow8 s
  | .convWide48Mid16 => Sys2Proof.Machine.execConvWide48Mid16 s
  | .convWide48Standard24 => Sys2Proof.Machine.execConvWide48Standard24 s
  | .convWide48Wide48 => Sys2Proof.Machine.execConvWide48Wide48 s
  | .mkrawNarrow8 => Sys2Proof.Machine.execMkrawNarrow8 s
  | .mkrawMid16 => Sys2Proof.Machine.execMkrawMid16 s
  | .mkrawStandard24 => Sys2Proof.Machine.execMkrawStandard24 s
  | .mkrawWide48 => Sys2Proof.Machine.execMkrawWide48 s
  | .mknormNarrow8 => Sys2Proof.Machine.execMknormNarrow8 s
  | .mknormMid16 => Sys2Proof.Machine.execMknormMid16 s
  | .mknormStandard24 => Sys2Proof.Machine.execMknormStandard24 s
  | .mknormWide48 => Sys2Proof.Machine.execMknormWide48 s
  | .rescale2To2 => Sys2Proof.Machine.execRescale2To2 s
  | .rescale2To5 => Sys2Proof.Machine.execRescale2To5 s
  | .rescale2To8 => Sys2Proof.Machine.execRescale2To8 s
  | .rescale2To16 => Sys2Proof.Machine.execRescale2To16 s
  | .rescale3To2 => Sys2Proof.Machine.execRescale3To2 s
  | .rescale3To3 => Sys2Proof.Machine.execRescale3To3 s
  | .rescale3To5 => Sys2Proof.Machine.execRescale3To5 s
  | .rescale3To6 => Sys2Proof.Machine.execRescale3To6 s
  | .rescale3To8 => Sys2Proof.Machine.execRescale3To8 s
  | .rescale3To16 => Sys2Proof.Machine.execRescale3To16 s
  | .rescale5To2 => Sys2Proof.Machine.execRescale5To2 s
  | .rescale5To3 => Sys2Proof.Machine.execRescale5To3 s
  | .rescale5To5 => Sys2Proof.Machine.execRescale5To5 s
  | .rescale5To8 => Sys2Proof.Machine.execRescale5To8 s
  | .rescale5To16 => Sys2Proof.Machine.execRescale5To16 s
  | .rescale6To2 => Sys2Proof.Machine.execRescale6To2 s
  | .rescale6To3 => Sys2Proof.Machine.execRescale6To3 s
  | .rescale6To5 => Sys2Proof.Machine.execRescale6To5 s
  | .rescale6To6 => Sys2Proof.Machine.execRescale6To6 s
  | .rescale6To8 => Sys2Proof.Machine.execRescale6To8 s
  | .rescale6To16 => Sys2Proof.Machine.execRescale6To16 s
  | .rescale8To2 => Sys2Proof.Machine.execRescale8To2 s
  | .rescale8To3 => Sys2Proof.Machine.execRescale8To3 s
  | .rescale8To5 => Sys2Proof.Machine.execRescale8To5 s
  | .rescale8To6 => Sys2Proof.Machine.execRescale8To6 s
  | .rescale8To8 => Sys2Proof.Machine.execRescale8To8 s
  | .rescale8To16 => Sys2Proof.Machine.execRescale8To16 s
  | .rescale16To2 => Sys2Proof.Machine.execRescale16To2 s
  | .rescale16To3 => Sys2Proof.Machine.execRescale16To3 s
  | .rescale16To5 => Sys2Proof.Machine.execRescale16To5 s
  | .rescale16To6 => Sys2Proof.Machine.execRescale16To6 s
  | .rescale16To8 => Sys2Proof.Machine.execRescale16To8 s
  | .rescale16To16 => Sys2Proof.Machine.execRescale16To16 s
  | .slut2To5 => Sys2Proof.Machine.execSlut2To5 s
  | .slut2To8 => Sys2Proof.Machine.execSlut2To8 s
  | .slut2To16 => Sys2Proof.Machine.execSlut2To16 s
  | .slut3To5 => Sys2Proof.Machine.execSlut3To5 s
  | .slut3To6 => Sys2Proof.Machine.execSlut3To6 s
  | .slut3To8 => Sys2Proof.Machine.execSlut3To8 s
  | .slut3To16 => Sys2Proof.Machine.execSlut3To16 s
  | .slut5To8 => Sys2Proof.Machine.execSlut5To8 s
  | .slut5To16 => Sys2Proof.Machine.execSlut5To16 s
  | .slut6To8 => Sys2Proof.Machine.execSlut6To8 s
  | .slut6To16 => Sys2Proof.Machine.execSlut6To16 s
  | .gamma8 => Sys2Proof.Machine.execGamma8 s
  | .gamma16 => Sys2Proof.Machine.execGamma16 s
  | .ccNarrow8Standard24 => Sys2Proof.Machine.execCcNarrow8Standard24 s
  | .ccNarrow8Wide48 => Sys2Proof.Machine.execCcNarrow8Wide48 s
  | .ccMid16Standard24 => Sys2Proof.Machine.execCcMid16Standard24 s
  | .ccMid16Wide48 => Sys2Proof.Machine.execCcMid16Wide48 s
  | .ccStandard24Standard24 => Sys2Proof.Machine.execCcStandard24Standard24 s
  | .ccStandard24Wide48 => Sys2Proof.Machine.execCcStandard24Wide48 s
  | .ccWide48Standard24 => Sys2Proof.Machine.execCcWide48Standard24 s
  | .ccWide48Wide48 => Sys2Proof.Machine.execCcWide48Wide48 s
  | .bgbuild => Sys2Proof.Machine.execBgbuild s
  | .bgread => Sys2Proof.Machine.execBgread s
  | .stat => Sys2Proof.Machine.execStat s

end Sys2Proof.Machine
end

