-- ==== Sys2Proof/Machine/Fetch.lean ====
section
/-! DEFINITION. What the machine does next: PFMC fetches no instruction (spec 10_state.md R22); the outside world presents a command on a port,
lets the build agent step, or resets (20_memory.md R47, 70_reset_and_hazards.md R220), as the script says (log 1). -/

namespace Sys2Proof.Machine

/-- The next step of the script: a command word to decode, with its arguments latched; a step already made; a stop. -/
inductive Fetched where
  | command (w : Word) (s : State)
  | moved (s : State)
  | stopped (f : Fault)
  deriving Repr

/-- Latch a command's arguments (10_state.md R29; log 3). A port the machine does not have takes no command (log 4). -/
def acceptCommand (q : Issue) (s : State) : Fetched :=
  if q.port < s.ports.length then .command q.cmd (withIssue q s) else .stopped .noSuchPort

/-- The step of an event. -/
def applyEvent (e : Event) (s : State) : Fetched :=
  match e with
  | .command q => acceptCommand q s
  | .buildAgent pick =>
    match agentStep pick s with
    | .ok t => .moved t
    | .error f => .stopped f
  | .reset => .moved (resetAction s)

/-- The next event of the script; with none left nothing happens (log 2). -/
def fetch (s : State) : Fetched :=
  match s.script with
  | [] => .moved s
  | e :: rest => applyEvent e (withScript rest s)

/-- Present a command word on the port and buses the state has latched, ahead of the script (log 16). -/
def presentWord (w : Word) (s : State) : State :=
  withScript (.command { s.issue with cmd := w } :: s.script) s

end Sys2Proof.Machine
end

