-- ==== Sys2Proof/Machine/Step.lean ====
section
/-! DEFINITION. One step of PFMC (spec 00_scope.md R16, 20_memory.md R47): the next event of the script; a command word is decoded and run,
an illegal one takes the ILLEGAL_CMD fault (30_encoding.md R67). -/

namespace Sys2Proof.Machine

def step (s : State) : Host.Outcome State Fault Refusal :=
  match fetch s with
  | .moved t => .next t
  | .stopped f => .fault f
  | .command w t =>
    match decode w with
    | .ok i => exec i t
    | .error _ => .next (illegalCommand t)

/-- The state with one command word presented where the next step takes it: at the head of the script, on the port and with the data
buses that `issue` holds (log 16). -/
def State.withFetchWord (s : State) (nbits w : Nat) : State := presentWord (tableWord nbits w) s

end Sys2Proof.Machine
end

