-- ==== Sys2Proof/Safety.lean ====
section
/-! DEFINITION. What holds in every state a run reaches (spec 10_state.md R30, R32; 42_gamma.md R141, R142; 43_background.md R163, R167): the
invariant statements use to rule out states the machine never is in. -/

namespace Sys2Proof.Machine

/-- The limits of GAMMA8_ROM (42_gamma.md R141). -/
def Gamma8Ok (g : Vector (BitVec 8) 256) : Prop :=
  g[(0 : Fin 256)].toNat = 0 ∧ (∀ i : Fin 256, g[i].toNat ≤ 252) ∧ ∀ i j : Fin 256, i ≤ j → g[i].toNat ≤ g[j].toNat

/-- The limits of GAMMA16_ROM (42_gamma.md R142). -/
def Gamma16Ok (g : Vector (BitVec 16) 256) : Prop :=
  g[(0 : Fin 256)].toNat = 0 ∧ g[(255 : Fin 256)].toNat = 65535 ∧ ∀ i j : Fin 256, i ≤ j → g[i].toNat ≤ g[j].toNat

/-- The invariant of PFMC. -/
structure State.Inv (s : State) : Prop where
  /-- The scale tables hold their contents (10_state.md R25, 41_conversion.md R107). -/
  scale : s.scale = scaleContents
  gamma8 : Gamma8Ok s.gamma8
  gamma16 : Gamma16Ok s.gamma16
  /-- BGLUT is in its canonical form (log 18). -/
  bglut : s.bglut.wf = true
  /-- `bg_busy = 1` exactly when `bg_pending` is non-empty (10_state.md R32). -/
  busy : s.bgBusy = true ↔ s.bgPending ≠ []
  /-- bg_pending is held rising (log 21). -/
  pending : s.bgPending.Pairwise (· < ·)
  /-- `bg_bright ≠ ⊥` whenever `bg_busy = 1` (10_state.md R32). -/
  bright : s.bgBusy = true → s.bgBright ≠ none
  /-- `CAUSE = 0` exactly when `FAULT = 0` (10_state.md R32). -/
  cause : s.cause = 0 ↔ s.fault = false
  /-- The legal values of CAUSE (10_state.md R27). -/
  causeLegal : s.cause.toNat ≤ 7
  /-- Every pixel on an output bus is a pixel of its format (10_state.md R30). -/
  pixels : ∀ o ∈ s.ports, ∀ p, o.pix = some p → p.fits = true
  /-- What the last build has written is current: an index it no longer has pending holds the dimming formula's value for the latched
  brightness (43_background.md R163, R167). -/
  table : ∀ bright, s.bgBright = some bright → ∀ i : Fin 256, i ∉ s.bgPending → s.bglut.read i.val = some (bgEntry s i bright)
  /-- The latched port is a port of the machine, so there is one (20_memory.md R47; log 4). -/
  port : s.issue.port < s.ports.length

/-- The event names a port the machine has (20_memory.md R47; log 4). -/
def Event.onPorts (e : Event) (s : State) : Prop :=
  match e with
  | .command q => q.port < s.ports.length
  | .buildAgent _ => True
  | .reset => True

end Sys2Proof.Machine
end

