-- ==== Sys2Proof/Certificates/Slice0/Obligations.lean ====
section
/-! DEFINITION. What is stated of this model, for the provers. Each docstring names the rule of spec/ it formalises; a clause that rests on the
model's own choice names its log entry. -/

namespace Sys2Proof.Machine

/-! Vocabulary of the statements. -/

/-- Each channel is below its bound: the range check written out in numbers. -/
def Channels.below (x y z : Nat) (c : Channels) : Prop := c.r.toNat < x ∧ c.g.toNat < y ∧ c.b.toNat < z

/-- A command that reads `pix_in` and writes `pix_out`: its word decodes to it; within `dom` it answers `res` on `pix_out`; outside it
takes the CHAN_RANGE fault. -/
def PixCommand (w : Word) (i : Instr) (dom : Channels → Prop) (res : Channels → Pixel) : Prop :=
  decode w = .ok i ∧ ∀ s : State,
    (dom s.issue.pixIn → exec i s = .next (putPix (some (res s.issue.pixIn)) s)) ∧
    (¬ dom s.issue.pixIn → exec i s = .next (raiseFault .chanRange .pix s))

/-- A CONV whose three lanes are the entries of three scale tables. -/
def TableCommand (w : Word) (i : Instr) (dom : Channels → Prop) (dst : Format) (tr tg tb : ScaleTable) : Prop :=
  decode w = .ok i ∧ ∀ s : State,
    (dom s.issue.pixIn → ∃ r g b,
      s.scale.entry tr s.issue.pixIn.r.toNat = some r ∧ s.scale.entry tg s.issue.pixIn.g.toNat = some g ∧
      s.scale.entry tb s.issue.pixIn.b.toNat = some b ∧
      exec i s = .next (putPix (some { fmt := dst, r := zext16 r, g := zext16 g, b := zext16 b }) s)) ∧
    (¬ dom s.issue.pixIn → exec i s = .next (raiseFault .chanRange .pix s))

/-- Every component is in [0, 1], as the order of the rationals says it. -/
def NormIn.inside (n : NormIn) : Prop := (0 ≤ n.r ∧ n.r ≤ 1) ∧ (0 ≤ n.g ∧ n.g ≤ 1) ∧ (0 ≤ n.b ∧ n.b ≤ 1)

/-- MKNORM of a format: NORM_PRODUCT of each component when all are in [0, 1], else the NORM_DOMAIN fault. -/
def NormCommand (w : Word) (i : Instr) (fmt : Format) (wr wg wb : Width) : Prop :=
  decode w = .ok i ∧ ∀ s : State,
    (s.issue.normIn.inside → exec i s = .next (putPix (some
      { fmt := fmt
        r := zext16 (normProduct s.cfg.normProduct s.issue.normIn.r wr)
        g := zext16 (normProduct s.cfg.normProduct s.issue.normIn.g wg)
        b := zext16 (normProduct s.cfg.normProduct s.issue.normIn.b wb) }) s)) ∧
    (¬ s.issue.normIn.inside → exec i s = .next (raiseFault .normDomain .pix s))

/-- The channels of a pixel, as a host copies `pix_out` to `pix_in`. -/
def Pixel.channels (p : Pixel) : Channels := { r := p.r, g := p.g, b := p.b }

/-- Each lane of the second pixel is at least the first's where its input channel is, lane by lane. -/
def LanesRise (c c' : Channels) (p p' : Pixel) : Prop :=
  (c.r.toNat ≤ c'.r.toNat → p.r.toNat ≤ p'.r.toNat) ∧ (c.g.toNat ≤ c'.g.toNat → p.g.toNat ≤ p'.g.toNat) ∧
  (c.b.toNat ≤ c'.b.toNat → p.b.toNat ≤ p'.b.toNat)

/-- The state with a pixel presented on `pix_in`. -/
def presentPix (c : Channels) (s : State) : State := withIssue { s.issue with pixIn := c } s

/-- The conditions of 30_encoding.md R67 on a word's number `n`, its major opcode and its two width codes. -/
def IllegalNumber (n op a b : Nat) : Prop :=
  11 ≤ op ∨
  ((op = 0 ∨ op = 7) ∧ n % 256 ≠ 0) ∨
  ((op = 1 ∨ op = 2) ∧ n % 1024 ≠ 0) ∨
  ((op = 3 ∨ op = 4) ∧ n % 64 ≠ 0) ∨
  ((op = 5 ∨ op = 6 ∨ op = 8 ∨ op = 9 ∨ op = 10) ∧ n % 4096 ≠ 0) ∨
  ((op = 3 ∨ op = 4) ∧ (6 ≤ a ∨ 6 ≤ b)) ∨
  (op = 3 ∧ (a, b) ∈ [(0, 1), (0, 3), (2, 3)]) ∨
  (op = 4 ∧ (a, b) ∉ [(0, 2), (0, 4), (0, 5), (1, 2), (1, 3), (1, 4), (1, 5), (2, 4), (2, 5), (3, 4), (3, 5)]) ∨
  (op = 7 ∧ n / 256 % 4 < 2)

/-- The word is illegal by 30_encoding.md R67. -/
def IllegalWord (w : Word) : Prop :=
  IllegalNumber w.toNat (w.toNat / 4096) (w.toNat / 512 % 8) (w.toNat / 64 % 8)

/-- The 81 words of spec/opcode_table.json. -/
def legalWords : List Word :=
  [0x0000#16, 0x0100#16, 0x0200#16, 0x0300#16, 0x0400#16, 0x0500#16, 0x0600#16, 0x0700#16, 0x0800#16, 0x0900#16, 0x0A00#16, 0x0B00#16, 0x0C00#16, 0x0D00#16, 0x0E00#16, 0x0F00#16] ++
  [0x1000#16, 0x1400#16, 0x1800#16, 0x1C00#16] ++
  [0x2000#16, 0x2400#16, 0x2800#16, 0x2C00#16] ++
  [0x3000#16, 0x3080#16, 0x3100#16, 0x3140#16, 0x3200#16, 0x3240#16, 0x3280#16, 0x32C0#16, 0x3300#16, 0x3340#16, 0x3400#16, 0x3440#16, 0x3480#16, 0x3500#16, 0x3540#16, 0x3600#16, 0x3640#16] ++
  [0x3680#16, 0x36C0#16, 0x3700#16, 0x3740#16, 0x3800#16, 0x3840#16, 0x3880#16, 0x38C0#16, 0x3900#16, 0x3940#16, 0x3A00#16, 0x3A40#16, 0x3A80#16, 0x3AC0#16, 0x3B00#16, 0x3B40#16] ++
  [0x4080#16, 0x4100#16, 0x4140#16, 0x4280#16, 0x42C0#16, 0x4300#16, 0x4340#16, 0x4500#16, 0x4540#16, 0x4700#16, 0x4740#16] ++
  [0x5000#16] ++
  [0x6000#16] ++
  [0x7200#16, 0x7300#16, 0x7600#16, 0x7700#16, 0x7A00#16, 0x7B00#16, 0x7E00#16, 0x7F00#16] ++
  [0x8000#16] ++
  [0x9000#16] ++
  [0xA000#16]

/-- The 36 pairs of widths. -/
def widthPairs : List (Width × Width) :=
  [Width.w2, .w3, .w5, .w6, .w8, .w16].flatMap fun a => [Width.w2, .w3, .w5, .w6, .w8, .w16].map fun b => (a, b)

/-- The four invariants of 10_state.md R32. -/
def SpecInvariants (s : State) : Prop :=
  (s.bgBusy = true ↔ s.bgPending ≠ []) ∧ (s.bgBusy = true → s.bgBright ≠ none) ∧ (s.cause = 0 ↔ s.fault = false) ∧
  ∀ i v, s.bglut.read i = some v → v.toNat < 2 ^ 16

/-- The causes a command can raise (60_exceptions.md R192). -/
def causesOf : Op → List Cause
  | .conv _ _ => [.chanRange]
  | .mkraw _ => []
  | .mknorm _ => [.normDomain]
  | .rescale _ _ => [.chanRange]
  | .slut _ _ => [.chanRange]
  | .gamma8 => [.chanRange]
  | .gamma16 => [.chanRange]
  | .cc .standard24 _ => [.chanRange]
  | .cc _ _ => [.ccDomain]
  | .bgbuild => [.bgBusy, .brightRange]
  | .bgread => [.chanRange, .bgUnwritten]
  | .stat => []

/-- The commands that read `pix_in` (30_encoding.md R64; 42_gamma.md R147 reads none). -/
def readsPix : Op → Bool
  | .conv _ _ => true
  | .mkraw _ => true
  | .cc src _ => src == .standard24
  | _ => false

/-- The commands that read `din` (30_encoding.md R64). -/
def readsDin : Op → Bool
  | .rescale _ _ => true
  | .slut _ _ => true
  | .gamma8 => true
  | .gamma16 => true
  | .bgbuild => true
  | .bgread => true
  | _ => false

/-- The commands that read `norm_in` (30_encoding.md R64). -/
def readsNorm : Op → Bool
  | .mknorm _ => true
  | _ => false

/-- The event steps the build agent. -/
def Event.isAgent : Event → Bool
  | .buildAgent _ => true
  | _ => false

end Sys2Proof.Machine

open Sys2Proof Sys2Proof.Machine

/-- What reset leaves: R34. -/
def Obligations.ResetStateIsAsStated : Prop :=
  State.reset.scale = scaleContents ∧ State.reset.gamma8 = gamma8Rom ∧ State.reset.gamma16 = gamma16Rom ∧
  (∀ i, State.reset.bglut.read i = none) ∧ State.reset.bgBusy = false ∧ State.reset.bgBright = none ∧
  State.reset.bgPending = [] ∧ State.reset.fault = false ∧ State.reset.cause = 0 ∧
  ∀ o ∈ State.reset.ports, o.pix = none ∧ o.dout = none

/-- The state after reset meets the invariant: 10_state.md R32, R34, 42_gamma.md R141, R142, log 7, log 11. -/
def Obligations.ResetMeetsInvariant : Prop :=
  State.reset.Inv

/-- Every step keeps the invariant: 10_state.md R25, R30, R32, 43_background.md R163, R167, log 18, log 21. -/
def Obligations.StepKeepsInvariant : Prop :=
  ∀ s t : State, s.Inv → step s = .next t → t.Inv

/-- The four invariants of the state: R32. -/
def Obligations.SpecInvariantsKept : Prop :=
  SpecInvariants State.reset ∧ ∀ s t : State, SpecInvariants s → step s = .next t → SpecInvariants t

/-- No run stops: 60_exceptions.md R200, R202, log 1, log 4, log 13. -/
def Obligations.EveryScriptRuns : Prop :=
  ∀ s : State, s.Inv → (∀ e ∈ s.script, e.onPorts s) → ∀ n, ∃ t, core.run n s = .next t

/-- Decode and encode agree on all instructions and words: 30_encoding.md R60, R62, R65, R69. -/
def Obligations.EncodeDecodeAgree : Prop :=
  (∀ i : Instr, decode (encode i) = .ok i) ∧ ∀ (w : Word) (i : Instr), decode w = .ok i → encode i = w

/-- Decoding is total: 81 legal words, the rest illegal: R69. -/
def Obligations.LegalWordsAre81 : Prop :=
  legalWords.length = 81 ∧ legalWords.Nodup ∧
  ∀ w : Word, (w ∈ legalWords ↔ ∃ i, decode w = .ok i) ∧ (w ∈ legalWords ↔ ¬ IllegalWord w)

/-- Which words are illegal, and what they do: 30_encoding.md R67, 60_exceptions.md R191, R194, log 1, log 3, log 4. The latching of the
arguments, the script and the hypothesis on the port are the model's choices (log 1, log 3, log 4). -/
def Obligations.IllegalWordsFault : Prop :=
  ∀ w : Word, ((∃ r, decode w = .error r) ↔ IllegalWord w) ∧
    ∀ (s : State) (q : Issue) (rest : List Event), s.script = .command q :: rest → q.cmd = w →
      q.port < s.ports.length → IllegalWord w →
      step s = .next (raiseFault .illegalCmd .both (withIssue q (withScript rest s)))

/-- A few command words, one per family: 30_encoding.md R65, R74, 41_conversion.md R109. -/
def Obligations.SampleWordsDecode : Prop :=
  decode 0x0300 = .ok .convNarrow8Wide48 ∧ decode 0x1400 = .ok .mkrawMid16 ∧ decode 0x2800 = .ok .mknormStandard24 ∧
  decode 0x3940 = .ok .rescale8To16 ∧ decode 0x4740 = .ok .slut6To16 ∧ decode 0x5000 = .ok .gamma8 ∧
  decode 0x6000 = .ok .gamma16 ∧ decode 0x7F00 = .ok .ccWide48Wide48 ∧ decode 0x8000 = .ok .bgbuild ∧
  decode 0x9000 = .ok .bgread ∧ decode 0xA000 = .ok .stat

/-- The pseudo-instructions' words: R74. -/
def Obligations.PseudoInstructionsExpand : Prop :=
  (∀ f : Format, (encode (Pseudo.copy f).expand).toNat = f.code * 2 ^ 10 + f.code * 2 ^ 8) ∧
  encode Pseudo.widen8to16.expand = 0x3940 ∧ encode Pseudo.gamma24.expand = 0x7A00 ∧
  encode Pseudo.gamma48.expand = 0x7B00 ∧ encode Pseudo.bgwait.expand = 0xA000 ∧
  (∀ f : Format, (Pseudo.copy f).expand.op = .conv f f) ∧ Pseudo.widen8to16.expand = .rescale8To16 ∧
  Pseudo.gamma24.expand = .ccStandard24Standard24 ∧ Pseudo.gamma48.expand = .ccStandard24Wide48 ∧
  Pseudo.bgwait.expand = .stat ∧ ∀ s : State, (statusWord s).getLsbD 0 = s.bgBusy

/-- The legal width pairs: R66. -/
def Obligations.LegalWidthPairs : Prop :=
  ∀ a b : Width,
    ((Op.rescale a b).instr?.isSome = true ↔
      a = b ∨ b.bits < a.bits ∨ (scaleTable? a b).isSome = true ∨ (a = .w8 ∧ b = .w16)) ∧
    ((Op.rescale a b).instr? = none ↔ (a, b) ∈ [(Width.w2, Width.w3), (Width.w2, Width.w6), (Width.w5, Width.w6)]) ∧
    ((Op.slut a b).instr?.isSome = true ↔
      (a.bits, b.bits) ∈ [(2, 5), (2, 8), (2, 16), (3, 5), (3, 6), (3, 8), (3, 16), (5, 8), (5, 16), (6, 8), (6, 16)]) ∧
    ((scaleTable? a b).isSome = true ↔ (Op.slut a b).instr?.isSome = true) ∧
    (widthPairs.filter fun p => (Op.rescale p.1 p.2).instr?.isSome).length = 33

/-- A step runs the decoded command: 00_scope.md R16, 20_memory.md R47, log 1, log 3. -/
def Obligations.StepRunsDecodedCommand : Prop :=
  ∀ (s : State) (q : Issue) (rest : List Event) (i : Instr), s.script = .command q :: rest → q.port < s.ports.length →
    decode q.cmd = .ok i → step s = exec i (withIssue q (withScript rest s))

/-- withFetchWord makes the next step run the word: 10_state.md R22, R29, log 16, log 17. -/
def Obligations.WithFetchWordRunsWord : Prop :=
  ∀ (s : State) (w : Word) (i : Instr), s.issue.port < s.ports.length → decode w = .ok i →
    step (s.withFetchWord 16 w.toNat) = exec i (withIssue { s.issue with cmd := w } s)

/-- What a step without a command does: 20_memory.md R47, 70_reset_and_hazards.md R220, log 2, log 4, log 14. -/
def Obligations.OtherEventsStep : Prop :=
  ∀ (s : State) (rest : List Event),
    (s.script = [] → step s = .next s) ∧
    (∀ k t, s.script = .buildAgent k :: rest → agentStep k (withScript rest s) = .ok t → step s = .next t) ∧
    (s.script = .reset :: rest → step s = .next (resetAction (withScript rest s))) ∧
    (∀ q, s.script = .command q :: rest → s.ports.length ≤ q.port → step s = .fault .noSuchPort)

/-- The fault action: R191. -/
def Obligations.FaultActionEffect : Prop :=
  (∀ (c : Cause) (t : Target) (s : State),
    (raiseFault c t s).fault = true ∧ (raiseFault c t s).cause = (if s.fault then s.cause else c.code) ∧
    (raiseFault c t s).bglut = s.bglut ∧ (raiseFault c t s).bgBusy = s.bgBusy ∧
    (raiseFault c t s).bgBright = s.bgBright ∧ (raiseFault c t s).bgPending = s.bgPending ∧
    (raiseFault c t s).scale = s.scale ∧ (raiseFault c t s).gamma8 = s.gamma8 ∧ (raiseFault c t s).gamma16 = s.gamma16 ∧
    (raiseFault c t s).cfg = s.cfg ∧ (raiseFault c t s).issue = s.issue ∧ (raiseFault c t s).script = s.script ∧
    ∀ p, (raiseFault c t s).ports[p]? =
      if s.issue.port = p then
        s.ports[p]?.map fun o =>
          { pix := if t = .pix ∨ t = .both then none else o.pix, dout := if t = .dout ∨ t = .both then none else o.dout }
      else s.ports[p]?) ∧
  ∀ s : State, illegalCommand s = raiseFault .illegalCmd .both s

/-- Which command can raise which cause: 60_exceptions.md R192 to R199, R201, log 12. -/
def Obligations.CausesAreTheirCommands : Prop :=
  (∀ (i : Instr) (s t : State), exec i s = .next t →
    (t.fault = s.fault ∧ t.cause = s.cause) ∨ ∃ c ∈ causesOf i.op, t = raiseFault c (targetOf i.op) s) ∧
  [Cause.illegalCmd, .chanRange, .ccDomain, .normDomain, .bgBusy, .bgUnwritten, .brightRange].map
    (fun c => c.code.toNat) = [1, 2, 3, 4, 5, 6, 7]

/-- Reset, and that nothing else clears: R220. -/
def Obligations.OnlyResetClears : Prop :=
  (∀ (s : State) (rest : List Event), s.script = .reset :: rest → ∃ t, step s = .next t ∧
    (∀ i, t.bglut.read i = none) ∧ t.bgBusy = false ∧ t.bgBright = none ∧ t.bgPending = [] ∧ t.fault = false ∧
    t.cause = 0 ∧ (∀ o ∈ t.ports, o.pix = none ∧ o.dout = none) ∧ t.ports.length = s.ports.length ∧
    t.scale = s.scale ∧ t.gamma8 = s.gamma8 ∧ t.gamma16 = s.gamma16) ∧
  ∀ s t : State, step s = .next t → s.script.head? ≠ some .reset →
    (s.fault = true → t.fault = true ∧ t.cause = s.cause) ∧ ∀ i, s.bglut.read i ≠ none → t.bglut.read i ≠ none

/-- MKRAW: the four raw constructions: R80, R84, R85, R86, R87. -/
def Obligations.MkrawKeepsLowBits : Prop :=
  (decode 0x1000 = .ok .mkrawNarrow8 ∧ ∀ s : State, exec .mkrawNarrow8 s = .next (putPix (some
    { fmt := .narrow8, r := zext16 (s.issue.pixIn.r.toNat % 8), g := zext16 (s.issue.pixIn.g.toNat % 8),
      b := zext16 (s.issue.pixIn.b.toNat % 4) }) s)) ∧
  (decode 0x1400 = .ok .mkrawMid16 ∧ ∀ s : State, exec .mkrawMid16 s = .next (putPix (some
    { fmt := .mid16, r := zext16 (s.issue.pixIn.r.toNat % 32), g := zext16 (s.issue.pixIn.g.toNat % 64),
      b := zext16 (s.issue.pixIn.b.toNat % 32) }) s)) ∧
  (decode 0x1800 = .ok .mkrawStandard24 ∧ ∀ s : State, exec .mkrawStandard24 s = .next (putPix (some
    { fmt := .standard24, r := zext16 (s.issue.pixIn.r.toNat % 256), g := zext16 (s.issue.pixIn.g.toNat % 256),
      b := zext16 (s.issue.pixIn.b.toNat % 256) }) s)) ∧
  (decode 0x1C00 = .ok .mkrawWide48 ∧ ∀ s : State, exec .mkrawWide48 s = .next (putPix (some
    { fmt := .wide48, r := s.issue.pixIn.r, g := s.issue.pixIn.g, b := s.issue.pixIn.b }) s))

/-- MKNORM: the four normalized constructions: R88, R89, R90, R91. -/
def Obligations.MknormTakesProducts : Prop :=
  NormCommand 0x2000 .mknormNarrow8 .narrow8 .w3 .w3 .w2 ∧ NormCommand 0x2400 .mknormMid16 .mid16 .w5 .w6 .w5 ∧
  NormCommand 0x2800 .mknormStandard24 .standard24 .w8 .w8 .w8 ∧ NormCommand 0x2C00 .mknormWide48 .wide48 .w16 .w16 .w16

/-- NORM_PRODUCT: its default and its limits: R83. -/
def Obligations.NormProductLimits : Prop :=
  (∀ (x : Rat) (w : Width), 0 ≤ x → x ≤ 1 →
    ((normProduct .exactFloor x w : Nat) : Int) = ⌊x * ((2 : Rat) ^ w.bits - 1)⌋) ∧
  ∀ (p : NormProduct) (x : Rat) (w : Width), 0 ≤ x → x ≤ 1 →
    normProduct p x w < 2 ^ w.bits ∧ normProduct p 0 w = 0 ∧ normProduct p 1 w = 2 ^ w.bits - 1

/-- The rescaler on its whole domain: R105. -/
def Obligations.RescaleFunction : Prop :=
  ∀ (a b : Width) (v : Nat) (s : State), v < 2 ^ a.bits →
    (a = b → rescale a b v s = .ok (zext16 v)) ∧
    (b.bits < a.bits → rescale a b v s = .ok (zext16 (v / 2 ^ (a.bits - b.bits)))) ∧
    (a = .w8 → b = .w16 → rescale a b v s = .ok (zext16 (257 * v))) ∧
    (∀ t, scaleTable? a b = some t → ∃ e, s.scale.entry t v = some e ∧ rescale a b v s = .ok (zext16 e)) ∧
    ((a, b) ∈ [(Width.w2, Width.w3), (Width.w2, Width.w6), (Width.w5, Width.w6)] → ∀ x, rescale a b v s ≠ .ok x) ∧
    (∀ x, rescale a b v s = .ok x → x.toNat < 2 ^ b.bits) ∧
    ∀ (f g : Format) (c : Channels), c.fits f = true → ∃ p, convLanes f g c s = .ok p

/-- RESCALE: all 33 commands: R110. -/
def Obligations.RescaleCommandRuns : Prop :=
  ∀ (i : Instr) (a b : Width), i.op = .rescale a b →
    decode (BitVec.ofNat 16 (0x3000 + a.code * 2 ^ 9 + b.code * 2 ^ 6)) = .ok i ∧
    ∀ s : State,
      (s.issue.din.toNat < 2 ^ a.bits → ∃ v, rescale a b s.issue.din.toNat s = .ok v ∧
        exec i s = .next (putDout (some v) s)) ∧
      (2 ^ a.bits ≤ s.issue.din.toNat → exec i s = .next (raiseFault .chanRange .dout s))

/-- SLUT: all 11 commands: R109. -/
def Obligations.SlutReadsTable : Prop :=
  ∀ (i : Instr) (a b : Width), i.op = .slut a b →
    decode (BitVec.ofNat 16 (0x4000 + a.code * 2 ^ 9 + b.code * 2 ^ 6)) = .ok i ∧
    ∃ t, scaleTable? a b = some t ∧ ∀ s : State,
      (s.issue.din.toNat < 2 ^ a.bits → ∃ e, s.scale.entry t s.issue.din.toNat = some e ∧
        exec i s = .next (putDout (some (zext16 e)) s)) ∧
      (2 ^ a.bits ≤ s.issue.din.toNat → exec i s = .next (raiseFault .chanRange .dout s))

/-- The scale tables are the rounding formula: R106. -/
def Obligations.ScaleTablesFollowFormula : Prop :=
  ∀ (t : ScaleTable) (i : Nat), i < 2 ^ t.src.bits →
    ∃ e, scaleContents.entry t i = some e ∧
      e = (2 * i * (2 ^ t.dst.bits - 1) + (2 ^ t.src.bits - 1)) / (2 * (2 ^ t.src.bits - 1)) ∧
      2 * i * (2 ^ t.dst.bits - 1) < (2 * e + 1) * (2 ^ t.src.bits - 1) ∧
      2 * e * (2 ^ t.src.bits - 1) < 2 * i * (2 ^ t.dst.bits - 1) + (2 ^ t.src.bits - 1)

/-- Widening covers the full range: R127. -/
def Obligations.ScaleFullRange : Prop :=
  (∀ t : ScaleTable, scaleContents.entry t 0 = some 0 ∧
    scaleContents.entry t (2 ^ t.src.bits - 1) = some (2 ^ t.dst.bits - 1)) ∧
  ∀ s : State, rescale .w8 .w16 0 s = .ok 0 ∧ rescale .w8 .w16 255 s = .ok 65535

/-- The rescaler and every lane are non-decreasing: R128. -/
def Obligations.RescaleMonotone : Prop :=
  ∀ s : State, s.scale = scaleContents →
    (∀ (a b : Width) (v v' : Nat) (x x' : Word), v ≤ v' → v' < 2 ^ a.bits → rescale a b v s = .ok x →
      rescale a b v' s = .ok x' → x.toNat ≤ x'.toNat) ∧
    ∀ (f g : Format) (c c' : Channels) (p p' : Pixel), c'.fits f = true → c.r.toNat ≤ c'.r.toNat →
      c.g.toNat ≤ c'.g.toNat → c.b.toNat ≤ c'.b.toNat → convLanes f g c s = .ok p → convLanes f g c' s = .ok p' →
      p.r.toNat ≤ p'.r.toNat ∧ p.g.toNat ≤ p'.g.toNat ∧ p.b.toNat ≤ p'.b.toNat

/-- Byte replication agrees with the table formula: R132. -/
def Obligations.ReplicationIsTableRule : Prop :=
  ∀ (s : State) (v : Nat), v < 256 →
    (v <<< 8) ||| v = 257 * v ∧ 257 * v = scaleFormula 8 16 v ∧ 257 * 255 = 65535 ∧
    rescale .w8 .w16 v s = .ok (zext16 (scaleFormula 8 16 v))

/-- CONV f, f copies the pixel: R111, R116, R121, R126. -/
def Obligations.ConvIdentityCopies : Prop :=
  PixCommand 0x0000 .convNarrow8Narrow8 (Channels.below 8 8 4) (fun c => { fmt := .narrow8, r := c.r, g := c.g, b := c.b }) ∧
  PixCommand 0x0500 .convMid16Mid16 (Channels.below 32 64 32) (fun c => { fmt := .mid16, r := c.r, g := c.g, b := c.b }) ∧
  PixCommand 0x0A00 .convStandard24Standard24 (Channels.below 256 256 256)
    (fun c => { fmt := .standard24, r := c.r, g := c.g, b := c.b }) ∧
  PixCommand 0x0F00 .convWide48Wide48 (fun _ => True) (fun c => { fmt := .wide48, r := c.r, g := c.g, b := c.b })

/-- The six narrowing conversions shift right: R115, R119, R120, R123, R124, R125. -/
def Obligations.ConvNarrowingShifts : Prop :=
  PixCommand 0x0400 .convMid16Narrow8 (Channels.below 32 64 32)
    (fun c => { fmt := .narrow8, r := c.r >>> 2, g := c.g >>> 3, b := c.b >>> 3 }) ∧
  PixCommand 0x0800 .convStandard24Narrow8 (Channels.below 256 256 256)
    (fun c => { fmt := .narrow8, r := c.r >>> 5, g := c.g >>> 5, b := c.b >>> 6 }) ∧
  PixCommand 0x0900 .convStandard24Mid16 (Channels.below 256 256 256)
    (fun c => { fmt := .mid16, r := c.r >>> 3, g := c.g >>> 2, b := c.b >>> 3 }) ∧
  PixCommand 0x0C00 .convWide48Narrow8 (fun _ => True)
    (fun c => { fmt := .narrow8, r := c.r >>> 13, g := c.g >>> 13, b := c.b >>> 14 }) ∧
  PixCommand 0x0D00 .convWide48Mid16 (fun _ => True)
    (fun c => { fmt := .mid16, r := c.r >>> 11, g := c.g >>> 10, b := c.b >>> 11 }) ∧
  PixCommand 0x0E00 .convWide48Standard24 (fun _ => True)
    (fun c => { fmt := .standard24, r := c.r >>> 8, g := c.g >>> 8, b := c.b >>> 8 })

/-- The five widening conversions by table: R112, R113, R114, R117, R118. -/
def Obligations.ConvWideningReadsTables : Prop :=
  TableCommand 0x0100 .convNarrow8Mid16 (Channels.below 8 8 4) .mid16 .t3to5 .t3to6 .t2to5 ∧
  TableCommand 0x0200 .convNarrow8Standard24 (Channels.below 8 8 4) .standard24 .t3to8 .t3to8 .t2to8 ∧
  TableCommand 0x0300 .convNarrow8Wide48 (Channels.below 8 8 4) .wide48 .t3to16 .t3to16 .t2to16 ∧
  TableCommand 0x0600 .convMid16Standard24 (Channels.below 32 64 32) .standard24 .t5to8 .t6to8 .t5to8 ∧
  TableCommand 0x0700 .convMid16Wide48 (Channels.below 32 64 32) .wide48 .t5to16 .t6to16 .t5to16

/-- CONV standard24, wide48 replicates bytes: R122. -/
def Obligations.ConvReplicatesBytes : Prop :=
  PixCommand 0x0B00 .convStandard24Wide48 (Channels.below 256 256 256)
    (fun c => { fmt := .wide48, r := (c.r <<< 8) ||| c.r, g := (c.g <<< 8) ||| c.g, b := (c.b <<< 8) ||| c.b })

/-- Widening then narrowing returns the pixel: R129. -/
def Obligations.WidenNarrowRoundTrip : Prop :=
  ∀ (f g : Format) (i j : Instr), f.code < g.code → i.op = .conv f g → j.op = .conv g f →
    ∀ (s : State) (c : Channels), s.scale = scaleContents → c.fits f = true →
      ∃ p : Pixel, exec i (presentPix c s) = .next (putPix (some p) (presentPix c s)) ∧
        exec j (presentPix p.channels s) =
          .next (putPix (some { fmt := f, r := c.r, g := c.g, b := c.b }) (presentPix p.channels s))

/-- The bounded-loss scenario: R130. -/
def Obligations.BoundedLossScenario : Prop :=
  ∀ s : State, s.scale = scaleContents →
    exec .convStandard24Mid16 (presentPix { r := 255, g := 128, b := 0 } s) =
      .next (putPix (some { fmt := .mid16, r := 31, g := 32, b := 0 }) (presentPix { r := 255, g := 128, b := 0 } s)) ∧
    exec .convMid16Standard24 (presentPix { r := 31, g := 32, b := 0 } s) =
      .next (putPix (some { fmt := .standard24, r := 255, g := 130, b := 0 }) (presentPix { r := 31, g := 32, b := 0 } s)) ∧
    130 - 128 ≤ 8

/-- The gamma tables are free within their limits: 00_scope.md R11, 42_gamma.md R141, R142, log 7. That the tables are built from free
numbers, and how, is the model's choice (log 7); the limits are the spec's. -/
def Obligations.GammaTableLimits : Prop :=
  (∀ free : Nat → Nat, Gamma8Ok (gamma8Table free) ∧ Gamma16Ok (gamma16Table free)) ∧
  (∀ g : Vector (BitVec 8) 256, Gamma8Ok g → ∃ free, gamma8Table free = g) ∧
  (∀ g : Vector (BitVec 16) 256, Gamma16Ok g → ∃ free, gamma16Table free = g) ∧
  Gamma8Ok State.reset.gamma8 ∧ Gamma16Ok State.reset.gamma16

/-- GAMMA8 and GAMMA16 read one entry: R143, R144. -/
def Obligations.GammaCommandsRead : Prop :=
  decode 0x5000 = .ok .gamma8 ∧ decode 0x6000 = .ok .gamma16 ∧
  ∀ s : State,
    (∀ h : s.issue.din.toNat < 256,
      exec .gamma8 s = .next (putDout (some (zext16 (s.gamma8[s.issue.din.toNat]'h).toNat)) s) ∧
      exec .gamma16 s = .next (putDout (some (s.gamma16[s.issue.din.toNat]'h)) s) ∧
      (Gamma8Ok s.gamma8 → (s.gamma8[s.issue.din.toNat]'h).toNat ≤ 252) ∧
      (Gamma8Ok s.gamma8 → s.issue.din = 0 → exec .gamma8 s = .next (putDout (some 0) s)) ∧
      (Gamma16Ok s.gamma16 → s.issue.din = 0 → exec .gamma16 s = .next (putDout (some 0) s)) ∧
      (Gamma16Ok s.gamma16 → s.issue.din = 255 → exec .gamma16 s = .next (putDout (some 65535) s))) ∧
    (255 < s.issue.din.toNat →
      exec .gamma8 s = .next (raiseFault .chanRange .dout s) ∧ exec .gamma16 s = .next (raiseFault .chanRange .dout s))

/-- CC of a standard24 pixel: R145, R146. -/
def Obligations.ColorCorrectionLooksUp : Prop :=
  decode 0x7A00 = .ok .ccStandard24Standard24 ∧ decode 0x7B00 = .ok .ccStandard24Wide48 ∧
  ∀ s : State,
    (∀ (hr : s.issue.pixIn.r.toNat < 256) (hg : s.issue.pixIn.g.toNat < 256) (hb : s.issue.pixIn.b.toNat < 256),
      exec .ccStandard24Standard24 s = .next (putPix (some
        { fmt := .standard24
          r := s.gamma16[s.issue.pixIn.r.toNat]'hr >>> 8
          g := s.gamma16[s.issue.pixIn.g.toNat]'hg >>> 8
          b := s.gamma16[s.issue.pixIn.b.toNat]'hb >>> 8 }) s) ∧
      exec .ccStandard24Wide48 s = .next (putPix (some
        { fmt := .wide48
          r := s.gamma16[s.issue.pixIn.r.toNat]'hr
          g := s.gamma16[s.issue.pixIn.g.toNat]'hg
          b := s.gamma16[s.issue.pixIn.b.toNat]'hb }) s)) ∧
    (¬ Channels.below 256 256 256 s.issue.pixIn →
      exec .ccStandard24Standard24 s = .next (raiseFault .chanRange .pix s) ∧
      exec .ccStandard24Wide48 s = .next (raiseFault .chanRange .pix s))

/-- Properties of colour correction: R148. -/
def Obligations.ColorCorrectionProperties : Prop :=
  ∀ s : State, Gamma16Ok s.gamma16 →
    (∀ (i : Instr) (c c' : Channels), i = .ccStandard24Standard24 ∨ i = .ccStandard24Wide48 →
      c.fits .standard24 = true → c'.fits .standard24 = true → ∃ p p' : Pixel,
        exec i (presentPix c s) = .next (putPix (some p) (presentPix c s)) ∧
        exec i (presentPix c' s) = .next (putPix (some p') (presentPix c' s)) ∧ LanesRise c c' p p') ∧
    (∀ c : Channels, c.fits .standard24 = true → ∃ p q : Pixel,
      exec .ccStandard24Wide48 (presentPix c s) = .next (putPix (some p) (presentPix c s)) ∧
      exec .convWide48Standard24 (presentPix p.channels s) = .next (putPix (some q) (presentPix p.channels s)) ∧
      exec .ccStandard24Standard24 (presentPix c s) = .next (putPix (some q) (presentPix c s))) ∧
    (∀ c : Channels, c = { r := 0, g := 0, b := 0 } →
      exec .ccStandard24Standard24 (presentPix c s) =
        .next (putPix (some { fmt := .standard24, r := 0, g := 0, b := 0 }) (presentPix c s)) ∧
      exec .ccStandard24Wide48 (presentPix c s) =
        .next (putPix (some { fmt := .wide48, r := 0, g := 0, b := 0 }) (presentPix c s))) ∧
    ∀ c : Channels, c = { r := 255, g := 255, b := 255 } →
      exec .ccStandard24Standard24 (presentPix c s) =
        .next (putPix (some { fmt := .standard24, r := 255, g := 255, b := 255 }) (presentPix c s)) ∧
      exec .ccStandard24Wide48 (presentPix c s) =
        .next (putPix (some { fmt := .wide48, r := 65535, g := 65535, b := 65535 }) (presentPix c s))

/-- CC of any other format is rejected: R147. -/
def Obligations.ColorRejectionFaults : Prop :=
  [0x7200#16, 0x7300#16, 0x7600#16, 0x7700#16, 0x7E00#16, 0x7F00#16].map decode =
    [.ok .ccNarrow8Standard24, .ok .ccNarrow8Wide48, .ok .ccMid16Standard24, .ok .ccMid16Wide48,
      .ok .ccWide48Standard24, .ok .ccWide48Wide48] ∧
  ∀ s : State,
    exec .ccNarrow8Standard24 s = .next (raiseFault .ccDomain .pix s) ∧
    exec .ccNarrow8Wide48 s = .next (raiseFault .ccDomain .pix s) ∧
    exec .ccMid16Standard24 s = .next (raiseFault .ccDomain .pix s) ∧
    exec .ccMid16Wide48 s = .next (raiseFault .ccDomain .pix s) ∧
    exec .ccWide48Standard24 s = .next (raiseFault .ccDomain .pix s) ∧
    exec .ccWide48Wide48 s = .next (raiseFault .ccDomain .pix s)

/-- The dimming formula and its consequences: R160, R168. -/
def Obligations.DimmingFormula : Prop :=
  (∀ (g : Word) (bright : Byte), (bgval g bright).toNat = g.toNat * bright.toNat / 256 ∧
    g.toNat * bright.toNat < 2 ^ 24 ∧ (bgval g bright).toNat ≤ 65279) ∧
  ∀ s : State, Gamma16Ok s.gamma16 → ∀ bright bright' : Byte,
    (bgEntry s 0 bright).toNat = 0 ∧ (bgEntry s 255 bright).toNat = 65535 * bright.toNat / 256 ∧
    (∀ i : Fin 256, (bgEntry s i bright).toNat ≤ s.gamma16[i].toNat ∧ (bgEntry s i bright).toNat ≠ 65535) ∧
    (∀ i j : Fin 256, i ≤ j → (bgEntry s i bright).toNat ≤ (bgEntry s j bright).toNat) ∧
    (bright.toNat ≤ bright'.toNat → ∀ i : Fin 256, (bgEntry s i bright).toNat ≤ (bgEntry s i bright').toNat)

/-- BGBUILD: 43_background.md R162, 60_exceptions.md R191, R200, log 12. That a faulting BGBUILD leaves every bus is the model's choice
(log 12). -/
def Obligations.BgbuildStartsBuild : Prop :=
  decode 0x8000 = .ok .bgbuild ∧
  ∀ s : State,
    (s.bgBusy = false → s.issue.din.toNat ≤ 255 → ∃ t bright, exec .bgbuild s = .next t ∧ bright.toNat = s.issue.din.toNat ∧
      t = { s with bgBusy := true, bgBright := some bright, bgPending := allIndices }) ∧
    (∀ i : Fin 256, i ∈ allIndices) ∧
    (s.bgBusy = true → exec .bgbuild s = .next (raiseFault .bgBusy .neither s)) ∧
    (s.bgBusy = false → 255 < s.issue.din.toNat → exec .bgbuild s = .next (raiseFault .brightRange .neither s)) ∧
    ∀ c, (raiseFault c .neither s).bgBusy = s.bgBusy ∧ (raiseFault c .neither s).bgBright = s.bgBright ∧
      (raiseFault c .neither s).bgPending = s.bgPending ∧ (raiseFault c .neither s).bglut = s.bglut ∧
      (raiseFault c .neither s).ports = s.ports

/-- A build agent's step writes one pending entry: 43_background.md R161, R163, 20_memory.md R43, log 5, log 6. The pick and the idle
agent are the model's choices (log 5, log 6). -/
def Obligations.AgentWritesOneEntry : Prop :=
  (∀ (k : Nat) (s : State) (bright : Byte), s.bgBusy = true → s.bgBright = some bright → s.cfg.bgAtomicSwap = false →
    s.bgPending ≠ [] → ∃ (i : Fin 256) (t : State), i ∈ s.bgPending ∧ agentStep k s = .ok t ∧
      t.bglut.read i.val = some (bgEntry s i bright) ∧ (∀ j, j ≠ i.val → t.bglut.read j = s.bglut.read j) ∧
      t.bgPending = s.bgPending.erase i ∧ t.bgBusy = !t.bgPending.isEmpty ∧ t.bgBright = s.bgBright ∧
      t.fault = s.fault ∧ t.cause = s.cause ∧ t.ports = s.ports ∧ t.scale = s.scale ∧ t.gamma8 = s.gamma8 ∧
      t.gamma16 = s.gamma16 ∧ t.cfg = s.cfg ∧ t.issue = s.issue ∧ t.script = s.script) ∧
  (∀ (s : State) (bright : Byte) (i : Fin 256), s.bgBusy = true → s.bgBright = some bright → s.cfg.bgAtomicSwap = false →
    i ∈ s.bgPending → ∃ k t, agentStep k s = .ok t ∧ t.bgPending = s.bgPending.erase i ∧
      t.bglut.read i.val = some (bgEntry s i bright)) ∧
  ∀ (k : Nat) (s : State), s.bgBusy = false → agentStep k s = .ok s

/-- With BG_ATOMIC_SWAP the agent's one step writes the whole table: 43_background.md R164. -/
def Obligations.AtomicSwapWritesAll : Prop :=
  ∀ (k : Nat) (s : State) (bright : Byte), s.bgBusy = true → s.bgBright = some bright → s.cfg.bgAtomicSwap = true →
    ∃ t, agentStep k s = .ok t ∧ (∀ i : Fin 256, t.bglut.read i.val = some (bgEntry s i bright)) ∧
      (∀ j, 255 < j → t.bglut.read j = s.bglut.read j) ∧ t.bgPending = [] ∧ t.bgBusy = false ∧
      t.bgBright = s.bgBright ∧ t.fault = s.fault ∧ t.cause = s.cause ∧ t.ports = s.ports ∧ t.scale = s.scale ∧
      t.gamma8 = s.gamma8 ∧ t.gamma16 = s.gamma16 ∧ t.cfg = s.cfg ∧ t.issue = s.issue ∧ t.script = s.script

/-- A build takes exactly as many agent steps as indices are pending: 43_background.md R163, 70_reset_and_hazards.md R230, log 5, log 20.
-/
def Obligations.BuildTakesPendingSteps : Prop :=
  ∀ (s : State) (bright : Byte) (picks : List Nat) (rest : List Event), s.Inv → s.bgBusy = true →
    s.bgBright = some bright → s.cfg.bgAtomicSwap = false → picks.length = s.bgPending.length →
    s.script = picks.map Event.buildAgent ++ rest →
    (∃ t, core.run picks.length s = .next t ∧ t.bgBusy = false ∧ t.bgPending = [] ∧ t.script = rest ∧
      ∀ i : Fin 256, t.bglut.read i.val = some (bgEntry s i bright)) ∧
    ∀ n, n < picks.length → ∃ t, core.run n s = .next t ∧ t.bgBusy = true

/-- A build ends once the agent has been scheduled often enough: 70_reset_and_hazards.md R231, 43_background.md R163, log 1, log 20. -/
def Obligations.BuildEndsUnderFairness : Prop :=
  ∀ s : State, s.Inv → (∀ e ∈ s.script, e.onPorts s) → (∀ e ∈ s.script, e ≠ .reset) →
    s.bgPending.length ≤ (s.script.filter Event.isAgent).length →
    ∃ n t, n ≤ s.script.length ∧ core.run n s = .next t ∧ t.bgBusy = false

/-- The one-step build is one of the entry-by-entry builds: 43_background.md R164, 20_memory.md R50, log 1, log 5, log 18. -/
def Obligations.AtomicSwapRefinesEntrywise : Prop :=
  ∀ (s : State) (picks : List Nat) (rest : List Event), s.Inv → s.bgBusy = true → s.cfg.bgAtomicSwap = false →
    s.bgPending = allIndices → picks.length = 256 →
    ∃ t, core.run 256 (withScript (picks.map Event.buildAgent ++ rest) s) = .next t ∧
      step { withScript (.buildAgent 0 :: rest) s with cfg := { s.cfg with bgAtomicSwap := true } } =
        .next { t with cfg := { s.cfg with bgAtomicSwap := true } }

/-- BGREAD: R166. -/
def Obligations.BgreadReadsEntry : Prop :=
  decode 0x9000 = .ok .bgread ∧
  ∀ s : State,
    (∀ v, s.issue.din.toNat ≤ 255 → s.bglut.read s.issue.din.toNat = some v →
      exec .bgread s = .next (putDout (some v) s)) ∧
    (s.issue.din.toNat ≤ 255 → s.bglut.read s.issue.din.toNat = none →
      exec .bgread s = .next (raiseFault .bgUnwritten .dout s)) ∧
    (255 < s.issue.din.toNat → exec .bgread s = .next (raiseFault .chanRange .dout s))

/-- After a completed build BGREAD returns the dimming value: R167. -/
def Obligations.BgreadAfterBuild : Prop :=
  ∀ (s : State) (bright : Byte) (i : Fin 256), s.Inv → s.bgBusy = false → s.bgBright = some bright →
    s.issue.din.toNat = i.val →
    exec .bgread s = .next (putDout (some (bgEntry s i bright)) s) ∧
    (bright = 0 → bgEntry s i bright = 0) ∧
    (bright = 255 → (bgEntry s i bright).toNat = s.gamma16[i].toNat * 255 / 256)

/-- An entry the build has not reached keeps its value: 20_memory.md R49, R50, 43_background.md R166. -/
def Obligations.PendingEntryKeepsOldValue : Prop :=
  ∀ s t : State, s.Inv → step s = .next t → s.script.head? ≠ some .reset →
    ∀ i ∈ t.bgPending, t.bglut.read i.val = s.bglut.read i.val

/-- STAT with BUSY = 0 proves the build complete: 20_memory.md R52, 44_status.md R180. -/
def Obligations.StatusZeroMeansComplete : Prop :=
  ∀ (s t : State) (o : PortOut) (w : Word) (bright : Byte), s.Inv → exec .stat s = .next t →
    t.ports[s.issue.port]? = some o → o.dout = some w → w.getLsbD 0 = false → s.bgBright = some bright →
    t.bgPending = [] ∧ ∀ i : Fin 256, t.bglut.read i.val = some (bgEntry t i bright)

/-- STAT and the status word: R180. -/
def Obligations.StatReturnsStatusWord : Prop :=
  decode 0xA000 = .ok .stat ∧
  (∀ s : State, ∃ w : Word, exec .stat s = .next (putDout (some w) s) ∧
    w.getLsbD 0 = s.bgBusy ∧ w.getLsbD 1 = s.fault ∧ w.extractLsb' 4 4 = s.cause ∧
    w.extractLsb' 2 2 = 0 ∧ w.extractLsb' 8 8 = 0) ∧
  exec .stat State.reset = .next (putDout (some 0) State.reset)

/-- Driving an output bus: 10_state.md R28, 70_reset_and_hazards.md R226. -/
def Obligations.BusesHoldWhatIsDriven : Prop :=
  ∀ (s : State) (v : Option Pixel) (d : Option Word) (p : Nat),
    (putPix v s).ports[p]? =
      (if s.issue.port = p then s.ports[p]?.map fun o => { pix := v, dout := o.dout } else s.ports[p]?) ∧
    (putDout d s).ports[p]? =
      (if s.issue.port = p then s.ports[p]?.map fun o => { pix := o.pix, dout := d } else s.ports[p]?) ∧
    { putPix v s with ports := s.ports } = s ∧ { putDout d s with ports := s.ports } = s

/-- What a command leaves unchanged: 10_state.md R25, R26, R28, 20_memory.md R40, 60_exceptions.md R191, R209, 30_encoding.md R64, log 12.
That BGBUILD has no target bus, so that a faulting one leaves every bus, is the model's choice (log 12). -/
def Obligations.CommandFrames : Prop :=
  ∀ (i : Instr) (s t : State), exec i s = .next t →
    t.cfg = s.cfg ∧ t.scale = s.scale ∧ t.gamma8 = s.gamma8 ∧ t.gamma16 = s.gamma16 ∧ t.issue = s.issue ∧
    t.script = s.script ∧ (∀ a, t.bglut.read a = s.bglut.read a) ∧
    (i ≠ .bgbuild → t.bgBusy = s.bgBusy ∧ t.bgBright = s.bgBright ∧ t.bgPending = s.bgPending) ∧
    t.ports.length = s.ports.length ∧ (∀ p, p ≠ s.issue.port → t.ports[p]? = s.ports[p]?) ∧
    (targetOf i.op ≠ .pix → t.ports.map PortOut.pix = s.ports.map PortOut.pix) ∧
    (targetOf i.op ≠ .dout → t.ports.map PortOut.dout = s.ports.map PortOut.dout)

/-- Only the build agent writes the dimming table: R26. -/
def Obligations.OnlyAgentWritesTable : Prop :=
  ∀ s t : State, step s = .next t → (∀ k, s.script.head? ≠ some (.buildAgent k)) → s.script.head? ≠ some .reset →
    ∀ a, t.bglut.read a = s.bglut.read a

/-- The read-only tables hold their contents: R25. -/
def Obligations.RomsNeverChange : Prop :=
  State.reset.scale = scaleContents ∧
  ∀ s t : State, step s = .next t → t.scale = s.scale ∧ t.gamma8 = s.gamma8 ∧ t.gamma16 = s.gamma16

/-- A command ignores the inputs it does not read: 10_state.md R29, 30_encoding.md R64, 42_gamma.md R147. -/
def Obligations.UnreadInputsIgnored : Prop :=
  ∀ (i : Instr) (s : State) (q : Issue), q.port = s.issue.port →
    (readsPix i.op = true → q.pixIn = s.issue.pixIn) → (readsDin i.op = true → q.din = s.issue.din) →
    (readsNorm i.op = true → q.normIn = s.issue.normIn) →
    ∃ t, exec i s = .next t ∧ exec i (withIssue q s) = .next (withIssue q t)

/-- Packed pixel words: R71. -/
def Obligations.PackUnpackInverse : Prop :=
  (∀ (f : Format) (n : Nat), n < 2 ^ packedBits f →
    pack (unpack f n) = n ∧ (unpack f n).fmt = f ∧ (unpack f n).fits = true) ∧
  ∀ p : Pixel, p.fits = true →
    unpack p.fmt (pack p) = p ∧ pack p < 2 ^ packedBits p.fmt ∧
    (p.fmt = .narrow8 → pack p = p.r.toNat * 2 ^ 5 + p.g.toNat * 2 ^ 2 + p.b.toNat ∧ packedBits p.fmt = 8) ∧
    (p.fmt = .mid16 → pack p = p.r.toNat * 2 ^ 11 + p.g.toNat * 2 ^ 5 + p.b.toNat ∧ packedBits p.fmt = 16) ∧
    (p.fmt = .standard24 → pack p = p.r.toNat * 2 ^ 16 + p.g.toNat * 2 ^ 8 + p.b.toNat ∧ packedBits p.fmt = 24) ∧
    (p.fmt = .wide48 → pack p = p.r.toNat * 2 ^ 32 + p.g.toNat * 2 ^ 16 + p.b.toNat ∧ packedBits p.fmt = 48)

/-- A build takes exactly 256 agent steps: 43_background.md R162, R163, 70_reset_and_hazards.md R230, log 1, log 5, log 20. -/
def Obligations.BuildAfterBgbuildTakes256Steps : Prop :=
  ∀ (s : State) (picks : List Nat) (rest : List Event), s.Inv → s.bgBusy = false → s.issue.din.toNat ≤ 255 →
    s.cfg.bgAtomicSwap = false → picks.length = 256 →
    ∃ t, exec .bgbuild s = .next t ∧
      (∃ u, core.run 256 (withScript (picks.map Event.buildAgent ++ rest) t) = .next u ∧ u.bgBusy = false ∧ u.script = rest ∧
        ∀ i : Fin 256, u.bglut.read i.val = some (bgEntry s i (BitVec.ofNat 8 s.issue.din.toNat))) ∧
      ∀ n, n < 256 → ∃ u, core.run n (withScript (picks.map Event.buildAgent ++ rest) t) = .next u ∧ u.bgBusy = true
end

