-- ==== Sys2Proof/Laws/Memory.lean ====
section
/-! SUPPORT. The laws of BGLUT's storage: reading what was written, leaving the rest alone, and the canonical form. -/

namespace Sys2Proof.Machine

@[simp] theorem Memory.read_nil (i : Nat) : Memory.read [] i = none := rfl

@[simp] theorem Memory.wf_nil : Memory.wf [] = true := rfl

theorem Memory.read_cons (k i : Nat) (v : Word) (m : Memory) :
    Memory.read ((k, v) :: m) i = if k = i then some v else Memory.read m i := rfl

@[simp] theorem Memory.read_write_self (m : Memory) (i : Nat) (v : Word) : (m.write i v).read i = some v := by
  induction m with
  | nil => simp [Memory.write, Memory.read]
  | cons c m ih =>
    obtain ⟨k, u⟩ := c
    rw [Memory.write]
    split
    · simp [Memory.read_cons]
    · split
      · simp [Memory.read_cons]
      · simp [Memory.read_cons, *]

theorem Memory.read_write_other (m : Memory) {i j : Nat} (v : Word) (h : i ≠ j) : (m.write i v).read j = m.read j := by
  induction m with
  | nil => simp [Memory.write, Memory.read_cons, h]
  | cons c m ih =>
    obtain ⟨k, u⟩ := c
    rw [Memory.write]
    split
    · rw [Memory.read_cons, if_neg h]
    · split
      · simp_all [Memory.read_cons]
      · simp [Memory.read_cons, ih]

/-- One lemma for both: what a write leaves at any index. -/
theorem Memory.read_write (m : Memory) (i j : Nat) (v : Word) :
    (m.write i v).read j = if i = j then some v else m.read j := by
  by_cases h : i = j
  · subst h; simp
  · rw [Memory.read_write_other m v h, if_neg h]

/-- The canonical form, one cell at a time. -/
theorem Memory.wf_cons (k : Nat) (v : Word) (m : Memory) :
    Memory.wf ((k, v) :: m) = true ↔ (∀ c ∈ m, k < c.1) ∧ k < 256 ∧ m.wf = true := by
  simp only [Memory.wf, List.map_cons, List.pairwise_cons, List.mem_map, List.all_cons, Bool.and_eq_true,
    decide_eq_true_eq, forall_exists_index, and_imp]
  constructor
  · rintro ⟨⟨h1, h2⟩, h3, h4⟩
    exact ⟨fun c hc => h1 _ c hc rfl, h3, h2, h4⟩
  · rintro ⟨h1, h2, h3, h4⟩
    exact ⟨⟨fun _ c hc hk => hk ▸ h1 c hc, h3⟩, h2, h4⟩

/-- A write lists the written index and what was listed before. -/
theorem Memory.mem_write {m : Memory} {i : Nat} {v : Word} {c : Nat × Word} (h : c ∈ m.write i v) : c.1 = i ∨ c ∈ m := by
  induction m with
  | nil => simp_all [Memory.write]
  | cons d m ih =>
    obtain ⟨k, u⟩ := d
    rw [Memory.write] at h
    split at h
    · simp only [List.mem_cons] at h
      rcases h with rfl | h | h <;> simp_all
    · split at h
      · simp only [List.mem_cons] at h
        rcases h with rfl | h <;> simp_all
      · simp only [List.mem_cons] at h
        rcases h with rfl | h
        · simp
        · rcases ih h with h | h <;> simp_all

/-- Every write of an index of the space keeps the canonical form. -/
theorem Memory.wf_write {m : Memory} {i : Nat} (v : Word) (hi : i < 256) (h : m.wf = true) : (m.write i v).wf = true := by
  induction m with
  | nil => simp [Memory.write, Memory.wf, hi]
  | cons c m ih =>
    obtain ⟨k, u⟩ := c
    obtain ⟨hk, hk', hm⟩ := (Memory.wf_cons k u m).1 h
    rw [Memory.write]
    split
    · refine (Memory.wf_cons _ _ _).2 ⟨?_, hi, h⟩
      intro c hc
      simp only [List.mem_cons] at hc
      rcases hc with rfl | hc
      · assumption
      · exact lt_trans ‹_› (hk c hc)
    · split
      · subst_vars
        exact (Memory.wf_cons _ _ _).2 ⟨hk, hi, hm⟩
      · refine (Memory.wf_cons _ _ _).2 ⟨fun c hc => ?_, hk', ih hm⟩
        rcases Memory.mem_write hc with h | h
        · omega
        · exact hk c h

/-- Below every listed index nothing is listed. -/
theorem Memory.read_eq_none_of_lt {m : Memory} {i : Nat} (h : ∀ c ∈ m, i < c.1) : m.read i = none := by
  induction m with
  | nil => rfl
  | cons c m ih =>
    obtain ⟨k, u⟩ := c
    have hk : i < k := h (k, u) (by simp)
    rw [Memory.read_cons, if_neg (by omega)]
    exact ih fun c hc => h c (by simp [hc])

/-- Canonical memories that read alike are equal data. -/
theorem Memory.eq_of_read_eq {m n : Memory} (hm : m.wf = true) (hn : n.wf = true) (h : ∀ i, m.read i = n.read i) : m = n := by
  induction m generalizing n with
  | nil =>
    cases n with
    | nil => rfl
    | cons d n => obtain ⟨l, v⟩ := d; simpa [Memory.read_cons] using h l
  | cons c m ih =>
    obtain ⟨k, u⟩ := c
    obtain ⟨hk, -, hm'⟩ := (Memory.wf_cons k u m).1 hm
    cases n with
    | nil => simpa [Memory.read_cons] using h k
    | cons d n =>
      obtain ⟨l, v⟩ := d
      obtain ⟨hl, -, hn'⟩ := (Memory.wf_cons l v n).1 hn
      have hkl : k = l := by
        rcases lt_trichotomy k l with hlt | rfl | hlt
        · have := h k
          rw [Memory.read_cons, if_pos rfl, Memory.read_eq_none_of_lt] at this
          · simp at this
          · intro c hc
            simp only [List.mem_cons] at hc
            rcases hc with rfl | hc
            · exact hlt
            · exact lt_trans hlt (hl c hc)
        · rfl
        · have := h l
          rw [Memory.read_cons (i := l) (k := l), if_pos rfl, Memory.read_eq_none_of_lt] at this
          · simp at this
          · intro c hc
            simp only [List.mem_cons] at hc
            rcases hc with rfl | hc
            · exact hlt
            · exact lt_trans hlt (hk c hc)
      subst hkl
      have huv : u = v := by simpa [Memory.read_cons] using h k
      subst huv
      congr 1
      refine ih hm' hn' fun i => ?_
      by_cases hi : k = i
      · subst hi
        rw [Memory.read_eq_none_of_lt hk, Memory.read_eq_none_of_lt hl]
      · simpa [Memory.read_cons, hi] using h i

end Sys2Proof.Machine
end

