-- ==== Sys2Proof/Laws/State.lean ====
section
/-! SUPPORT. One lemma per field per update of State, so that no proof unfolds a record update. -/

namespace Sys2Proof.Machine

variable (s : State)

section withIssue
variable (q : Issue)
@[simp] theorem withIssue_cfg : (withIssue q s).cfg = s.cfg := rfl
@[simp] theorem withIssue_scale : (withIssue q s).scale = s.scale := rfl
@[simp] theorem withIssue_gamma8 : (withIssue q s).gamma8 = s.gamma8 := rfl
@[simp] theorem withIssue_gamma16 : (withIssue q s).gamma16 = s.gamma16 := rfl
@[simp] theorem withIssue_bglut : (withIssue q s).bglut = s.bglut := rfl
@[simp] theorem withIssue_bgBusy : (withIssue q s).bgBusy = s.bgBusy := rfl
@[simp] theorem withIssue_bgBright : (withIssue q s).bgBright = s.bgBright := rfl
@[simp] theorem withIssue_bgPending : (withIssue q s).bgPending = s.bgPending := rfl
@[simp] theorem withIssue_fault : (withIssue q s).fault = s.fault := rfl
@[simp] theorem withIssue_cause : (withIssue q s).cause = s.cause := rfl
@[simp] theorem withIssue_ports : (withIssue q s).ports = s.ports := rfl
@[simp] theorem withIssue_issue : (withIssue q s).issue = q := rfl
@[simp] theorem withIssue_script : (withIssue q s).script = s.script := rfl
end withIssue

section withScript
variable (es : List Event)
@[simp] theorem withScript_cfg : (withScript es s).cfg = s.cfg := rfl
@[simp] theorem withScript_scale : (withScript es s).scale = s.scale := rfl
@[simp] theorem withScript_gamma8 : (withScript es s).gamma8 = s.gamma8 := rfl
@[simp] theorem withScript_gamma16 : (withScript es s).gamma16 = s.gamma16 := rfl
@[simp] theorem withScript_bglut : (withScript es s).bglut = s.bglut := rfl
@[simp] theorem withScript_bgBusy : (withScript es s).bgBusy = s.bgBusy := rfl
@[simp] theorem withScript_bgBright : (withScript es s).bgBright = s.bgBright := rfl
@[simp] theorem withScript_bgPending : (withScript es s).bgPending = s.bgPending := rfl
@[simp] theorem withScript_fault : (withScript es s).fault = s.fault := rfl
@[simp] theorem withScript_cause : (withScript es s).cause = s.cause := rfl
@[simp] theorem withScript_ports : (withScript es s).ports = s.ports := rfl
@[simp] theorem withScript_issue : (withScript es s).issue = s.issue := rfl
@[simp] theorem withScript_script : (withScript es s).script = es := rfl
end withScript

section putPix
variable (v : Option Pixel)
@[simp] theorem putPix_cfg : (putPix v s).cfg = s.cfg := rfl
@[simp] theorem putPix_scale : (putPix v s).scale = s.scale := rfl
@[simp] theorem putPix_gamma8 : (putPix v s).gamma8 = s.gamma8 := rfl
@[simp] theorem putPix_gamma16 : (putPix v s).gamma16 = s.gamma16 := rfl
@[simp] theorem putPix_bglut : (putPix v s).bglut = s.bglut := rfl
@[simp] theorem putPix_bgBusy : (putPix v s).bgBusy = s.bgBusy := rfl
@[simp] theorem putPix_bgBright : (putPix v s).bgBright = s.bgBright := rfl
@[simp] theorem putPix_bgPending : (putPix v s).bgPending = s.bgPending := rfl
@[simp] theorem putPix_fault : (putPix v s).fault = s.fault := rfl
@[simp] theorem putPix_cause : (putPix v s).cause = s.cause := rfl
@[simp] theorem putPix_ports : (putPix v s).ports = s.ports.modify s.issue.port fun o => { o with pix := v } := rfl
@[simp] theorem putPix_issue : (putPix v s).issue = s.issue := rfl
@[simp] theorem putPix_script : (putPix v s).script = s.script := rfl
end putPix

section putDout
variable (v : Option Word)
@[simp] theorem putDout_cfg : (putDout v s).cfg = s.cfg := rfl
@[simp] theorem putDout_scale : (putDout v s).scale = s.scale := rfl
@[simp] theorem putDout_gamma8 : (putDout v s).gamma8 = s.gamma8 := rfl
@[simp] theorem putDout_gamma16 : (putDout v s).gamma16 = s.gamma16 := rfl
@[simp] theorem putDout_bglut : (putDout v s).bglut = s.bglut := rfl
@[simp] theorem putDout_bgBusy : (putDout v s).bgBusy = s.bgBusy := rfl
@[simp] theorem putDout_bgBright : (putDout v s).bgBright = s.bgBright := rfl
@[simp] theorem putDout_bgPending : (putDout v s).bgPending = s.bgPending := rfl
@[simp] theorem putDout_fault : (putDout v s).fault = s.fault := rfl
@[simp] theorem putDout_cause : (putDout v s).cause = s.cause := rfl
@[simp] theorem putDout_ports : (putDout v s).ports = s.ports.modify s.issue.port fun o => { o with dout := v } := rfl
@[simp] theorem putDout_issue : (putDout v s).issue = s.issue := rfl
@[simp] theorem putDout_script : (putDout v s).script = s.script := rfl
end putDout

section startBuild
variable (bright : Byte)
@[simp] theorem startBuild_cfg : (startBuild bright s).cfg = s.cfg := rfl
@[simp] theorem startBuild_scale : (startBuild bright s).scale = s.scale := rfl
@[simp] theorem startBuild_gamma8 : (startBuild bright s).gamma8 = s.gamma8 := rfl
@[simp] theorem startBuild_gamma16 : (startBuild bright s).gamma16 = s.gamma16 := rfl
@[simp] theorem startBuild_bglut : (startBuild bright s).bglut = s.bglut := rfl
@[simp] theorem startBuild_bgBusy : (startBuild bright s).bgBusy = true := rfl
@[simp] theorem startBuild_bgBright : (startBuild bright s).bgBright = some bright := rfl
@[simp] theorem startBuild_bgPending : (startBuild bright s).bgPending = allIndices := rfl
@[simp] theorem startBuild_fault : (startBuild bright s).fault = s.fault := rfl
@[simp] theorem startBuild_cause : (startBuild bright s).cause = s.cause := rfl
@[simp] theorem startBuild_ports : (startBuild bright s).ports = s.ports := rfl
@[simp] theorem startBuild_issue : (startBuild bright s).issue = s.issue := rfl
@[simp] theorem startBuild_script : (startBuild bright s).script = s.script := rfl
end startBuild

section writeEntry
variable (i : Fin 256) (bright : Byte)
@[simp] theorem writeEntry_cfg : (writeEntry i bright s).cfg = s.cfg := rfl
@[simp] theorem writeEntry_scale : (writeEntry i bright s).scale = s.scale := rfl
@[simp] theorem writeEntry_gamma8 : (writeEntry i bright s).gamma8 = s.gamma8 := rfl
@[simp] theorem writeEntry_gamma16 : (writeEntry i bright s).gamma16 = s.gamma16 := rfl
@[simp] theorem writeEntry_bglut : (writeEntry i bright s).bglut = s.bglut.write i.val (bgEntry s i bright) := rfl
@[simp] theorem writeEntry_bgBusy : (writeEntry i bright s).bgBusy = if s.bgPending.erase i = [] then false else s.bgBusy := rfl
@[simp] theorem writeEntry_bgBright : (writeEntry i bright s).bgBright = s.bgBright := rfl
@[simp] theorem writeEntry_bgPending : (writeEntry i bright s).bgPending = s.bgPending.erase i := rfl
@[simp] theorem writeEntry_fault : (writeEntry i bright s).fault = s.fault := rfl
@[simp] theorem writeEntry_cause : (writeEntry i bright s).cause = s.cause := rfl
@[simp] theorem writeEntry_ports : (writeEntry i bright s).ports = s.ports := rfl
@[simp] theorem writeEntry_issue : (writeEntry i bright s).issue = s.issue := rfl
@[simp] theorem writeEntry_script : (writeEntry i bright s).script = s.script := rfl
end writeEntry

section swapTable
variable (bright : Byte)
@[simp] theorem swapTable_cfg : (swapTable bright s).cfg = s.cfg := rfl
@[simp] theorem swapTable_scale : (swapTable bright s).scale = s.scale := rfl
@[simp] theorem swapTable_gamma8 : (swapTable bright s).gamma8 = s.gamma8 := rfl
@[simp] theorem swapTable_gamma16 : (swapTable bright s).gamma16 = s.gamma16 := rfl
@[simp] theorem swapTable_bglut : (swapTable bright s).bglut = writeAll s bright allIndices s.bglut := rfl
@[simp] theorem swapTable_bgBusy : (swapTable bright s).bgBusy = false := rfl
@[simp] theorem swapTable_bgBright : (swapTable bright s).bgBright = s.bgBright := rfl
@[simp] theorem swapTable_bgPending : (swapTable bright s).bgPending = [] := rfl
@[simp] theorem swapTable_fault : (swapTable bright s).fault = s.fault := rfl
@[simp] theorem swapTable_cause : (swapTable bright s).cause = s.cause := rfl
@[simp] theorem swapTable_ports : (swapTable bright s).ports = s.ports := rfl
@[simp] theorem swapTable_issue : (swapTable bright s).issue = s.issue := rfl
@[simp] theorem swapTable_script : (swapTable bright s).script = s.script := rfl
end swapTable

section resetAction
@[simp] theorem resetAction_cfg : (resetAction s).cfg = s.cfg := rfl
@[simp] theorem resetAction_scale : (resetAction s).scale = s.scale := rfl
@[simp] theorem resetAction_gamma8 : (resetAction s).gamma8 = s.gamma8 := rfl
@[simp] theorem resetAction_gamma16 : (resetAction s).gamma16 = s.gamma16 := rfl
@[simp] theorem resetAction_bglut : (resetAction s).bglut = [] := rfl
@[simp] theorem resetAction_bgBusy : (resetAction s).bgBusy = false := rfl
@[simp] theorem resetAction_bgBright : (resetAction s).bgBright = none := rfl
@[simp] theorem resetAction_bgPending : (resetAction s).bgPending = [] := rfl
@[simp] theorem resetAction_fault : (resetAction s).fault = false := rfl
@[simp] theorem resetAction_cause : (resetAction s).cause = 0 := rfl
@[simp] theorem resetAction_ports : (resetAction s).ports = s.ports.map fun _ => PortOut.empty := rfl
@[simp] theorem resetAction_issue : (resetAction s).issue = s.issue := rfl
@[simp] theorem resetAction_script : (resetAction s).script = s.script := rfl
end resetAction

section invalidate
variable (t : Target)
@[simp] theorem invalidate_cfg : (invalidate t s).cfg = s.cfg := by cases t <;> rfl
@[simp] theorem invalidate_scale : (invalidate t s).scale = s.scale := by cases t <;> rfl
@[simp] theorem invalidate_gamma8 : (invalidate t s).gamma8 = s.gamma8 := by cases t <;> rfl
@[simp] theorem invalidate_gamma16 : (invalidate t s).gamma16 = s.gamma16 := by cases t <;> rfl
@[simp] theorem invalidate_bglut : (invalidate t s).bglut = s.bglut := by cases t <;> rfl
@[simp] theorem invalidate_bgBusy : (invalidate t s).bgBusy = s.bgBusy := by cases t <;> rfl
@[simp] theorem invalidate_bgBright : (invalidate t s).bgBright = s.bgBright := by cases t <;> rfl
@[simp] theorem invalidate_bgPending : (invalidate t s).bgPending = s.bgPending := by cases t <;> rfl
@[simp] theorem invalidate_fault : (invalidate t s).fault = s.fault := by cases t <;> rfl
@[simp] theorem invalidate_cause : (invalidate t s).cause = s.cause := by cases t <;> rfl
@[simp] theorem invalidate_issue : (invalidate t s).issue = s.issue := by cases t <;> rfl
@[simp] theorem invalidate_script : (invalidate t s).script = s.script := by cases t <;> rfl
end invalidate

section recordCause
variable (c : Cause)
@[simp] theorem recordCause_cfg : (recordCause c s).cfg = s.cfg := by unfold recordCause; split <;> rfl
@[simp] theorem recordCause_scale : (recordCause c s).scale = s.scale := by unfold recordCause; split <;> rfl
@[simp] theorem recordCause_gamma8 : (recordCause c s).gamma8 = s.gamma8 := by unfold recordCause; split <;> rfl
@[simp] theorem recordCause_gamma16 : (recordCause c s).gamma16 = s.gamma16 := by unfold recordCause; split <;> rfl
@[simp] theorem recordCause_bglut : (recordCause c s).bglut = s.bglut := by unfold recordCause; split <;> rfl
@[simp] theorem recordCause_bgBusy : (recordCause c s).bgBusy = s.bgBusy := by unfold recordCause; split <;> rfl
@[simp] theorem recordCause_bgBright : (recordCause c s).bgBright = s.bgBright := by unfold recordCause; split <;> rfl
@[simp] theorem recordCause_bgPending : (recordCause c s).bgPending = s.bgPending := by unfold recordCause; split <;> rfl
@[simp] theorem recordCause_fault : (recordCause c s).fault = true := by unfold recordCause; split <;> simp [*]
@[simp] theorem recordCause_cause : (recordCause c s).cause = if s.fault then s.cause else c.code := by
  unfold recordCause; split <;> simp [*]
@[simp] theorem recordCause_ports : (recordCause c s).ports = s.ports := by unfold recordCause; split <;> rfl
@[simp] theorem recordCause_issue : (recordCause c s).issue = s.issue := by unfold recordCause; split <;> rfl
@[simp] theorem recordCause_script : (recordCause c s).script = s.script := by unfold recordCause; split <;> rfl
end recordCause

section raiseFault
variable (c : Cause) (t : Target)
@[simp] theorem raiseFault_cfg : (raiseFault c t s).cfg = s.cfg := by simp [raiseFault]
@[simp] theorem raiseFault_scale : (raiseFault c t s).scale = s.scale := by simp [raiseFault]
@[simp] theorem raiseFault_gamma8 : (raiseFault c t s).gamma8 = s.gamma8 := by simp [raiseFault]
@[simp] theorem raiseFault_gamma16 : (raiseFault c t s).gamma16 = s.gamma16 := by simp [raiseFault]
@[simp] theorem raiseFault_bglut : (raiseFault c t s).bglut = s.bglut := by simp [raiseFault]
@[simp] theorem raiseFault_bgBusy : (raiseFault c t s).bgBusy = s.bgBusy := by simp [raiseFault]
@[simp] theorem raiseFault_bgBright : (raiseFault c t s).bgBright = s.bgBright := by simp [raiseFault]
@[simp] theorem raiseFault_bgPending : (raiseFault c t s).bgPending = s.bgPending := by simp [raiseFault]
@[simp] theorem raiseFault_fault : (raiseFault c t s).fault = true := by simp [raiseFault]
@[simp] theorem raiseFault_cause : (raiseFault c t s).cause = if s.fault then s.cause else c.code := by simp [raiseFault]
@[simp] theorem raiseFault_ports : (raiseFault c t s).ports = (invalidate t s).ports := by simp [raiseFault]
@[simp] theorem raiseFault_issue : (raiseFault c t s).issue = s.issue := by simp [raiseFault]
@[simp] theorem raiseFault_script : (raiseFault c t s).script = s.script := by simp [raiseFault]
end raiseFault

end Sys2Proof.Machine
end

