-- ==== Sys2Proof/Laws/Ops.lean ====
section
/-! SUPPORT. What each shared operation can do, said once: the answers of the table reads, the buses after a command, the build agent's
choice and writes. -/

namespace Sys2Proof.Machine

/-! Results. -/

@[simp] theorem pixResult_ok (p : Pixel) (s : State) : pixResult (.ok p) s = .next (putPix (some p) s) := rfl
@[simp] theorem pixResult_error (c : Cause) (s : State) : pixResult (.error c) s = .next (raiseFault c .pix s) := rfl
@[simp] theorem doutResult_ok (v : Word) (s : State) : doutResult (.ok v) s = .next (putDout (some v) s) := rfl
@[simp] theorem doutResult_error (c : Cause) (s : State) : doutResult (.error c) s = .next (raiseFault c .dout s) := rfl

/-- A command that writes `pix_out` answers its pixel or its fault, and nothing else. -/
theorem pixResult_cases {r : Except Cause Pixel} {s t : State} (h : pixResult r s = .next t) :
    (∃ p, r = .ok p ∧ t = putPix (some p) s) ∨ ∃ c, r = .error c ∧ t = raiseFault c .pix s := by
  cases r with
  | ok p => exact .inl ⟨p, rfl, by simpa using h.symm⟩
  | error c => exact .inr ⟨c, rfl, by simpa using h.symm⟩

/-- A command that writes `dout` answers its value or its fault, and nothing else. -/
theorem doutResult_cases {r : Except Cause Word} {s t : State} (h : doutResult r s = .next t) :
    (∃ v, r = .ok v ∧ t = putDout (some v) s) ∨ ∃ c, r = .error c ∧ t = raiseFault c .dout s := by
  cases r with
  | ok v => exact .inl ⟨v, rfl, by simpa using h.symm⟩
  | error c => exact .inr ⟨c, rfl, by simpa using h.symm⟩

/-! The output buses. -/

/-- `pix_out` after a drive: the issuing port's alone. -/
theorem putPix_getElem? (v : Option Pixel) (s : State) (p : Nat) :
    (putPix v s).ports[p]? =
      if s.issue.port = p then s.ports[p]?.map (fun o => { o with pix := v }) else s.ports[p]? := by
  simp only [putPix_ports, List.getElem?_modify]
  split <;> simp

/-- `dout` after a drive: the issuing port's alone. -/
theorem putDout_getElem? (v : Option Word) (s : State) (p : Nat) :
    (putDout v s).ports[p]? =
      if s.issue.port = p then s.ports[p]?.map (fun o => { o with dout := v }) else s.ports[p]? := by
  simp only [putDout_ports, List.getElem?_modify]
  split <;> simp

@[simp] theorem putPix_length (v : Option Pixel) (s : State) : (putPix v s).ports.length = s.ports.length := by simp
@[simp] theorem putDout_length (v : Option Word) (s : State) : (putDout v s).ports.length = s.ports.length := by simp
@[simp] theorem invalidate_length (t : Target) (s : State) : (invalidate t s).ports.length = s.ports.length := by
  cases t <;> simp [invalidate]

@[simp] theorem invalidate_pix (s : State) : invalidate .pix s = putPix none s := rfl
@[simp] theorem invalidate_dout (s : State) : invalidate .dout s = putDout none s := rfl
@[simp] theorem invalidate_both (s : State) : invalidate .both s = putDout none (putPix none s) := rfl
@[simp] theorem invalidate_neither (s : State) : invalidate .neither s = s := rfl

/-- A fault leaves the buses of every other port alone. -/
theorem raiseFault_other_port (c : Cause) (t : Target) (s : State) {p : Nat} (h : s.issue.port ≠ p) :
    (raiseFault c t s).ports[p]? = s.ports[p]? := by
  cases t <;> simp [h]

/-! Table reads. -/

theorem romRead_ok {e : Option Nat} {v : Word} (h : romRead e = .ok v) : ∃ n, e = some n ∧ v = zext16 n := by
  cases e with
  | none => simp [romRead] at h
  | some n => exact ⟨n, rfl, by simpa [romRead] using h.symm⟩

theorem romRead_error {e : Option Nat} {c : Cause} (h : romRead e = .error c) : e = none ∧ c = .chanRange := by
  cases e with
  | none => exact ⟨rfl, by simpa [romRead] using h.symm⟩
  | some n => simp [romRead] at h

theorem memRead_gamma8 {s : State} {i : Nat} (h : i < 256) : memRead .gamma8 i s = .ok (s.gamma8[i].setWidth 16) := by
  simp [memRead, romRead, h, zext16, BitVec.ofNat_toNat]

theorem memRead_gamma16 {s : State} {i : Nat} (h : i < 256) : memRead .gamma16 i s = .ok s.gamma16[i] := by
  simp [memRead, romRead, h, zext16, BitVec.ofNat_toNat]

theorem memRead_gamma8_outside {s : State} {i : Nat} (h : 255 < i) : memRead .gamma8 i s = .error .chanRange := by
  simp [memRead, romRead, show ¬ i < 256 by omega]

theorem memRead_gamma16_outside {s : State} {i : Nat} (h : 255 < i) : memRead .gamma16 i s = .error .chanRange := by
  simp [memRead, romRead, show ¬ i < 256 by omega]

theorem memRead_bglut_outside {s : State} {i : Nat} (h : 255 < i) : memRead .bglut i s = .error .chanRange := by
  simp [memRead, bglutRead, h]

theorem memRead_bglut_written {s : State} {i : Nat} {v : Word} (h : i < 256) (hv : s.bglut.read i = some v) :
    memRead .bglut i s = .ok v := by
  simp [memRead, bglutRead, show ¬ 255 < i by omega, hv]

theorem memRead_bglut_unwritten {s : State} {i : Nat} (h : i < 256) (hv : s.bglut.read i = none) :
    memRead .bglut i s = .error .bgUnwritten := by
  simp [memRead, bglutRead, show ¬ 255 < i by omega, hv]

/-- A scale table has exactly `2^n` entries. -/
theorem ScaleRom.entry_isSome (rom : ScaleRom) (t : ScaleTable) (i : Nat) :
    (rom.entry t i).isSome = true ↔ i < 2 ^ t.src.bits := by
  cases t <;> simp [ScaleRom.entry, ScaleTable.src, Width.bits]

/-- Every entry fits the table's destination width. -/
theorem ScaleRom.entry_lt {rom : ScaleRom} {t : ScaleTable} {i v : Nat} (h : rom.entry t i = some v) :
    v < 2 ^ t.dst.bits := by
  cases t <;> simp only [ScaleRom.entry, Option.map_eq_some_iff] at h <;> obtain ⟨x, -, rfl⟩ := h <;> exact x.isLt

theorem memRead_scale {s : State} {t : ScaleTable} {i : Nat} (h : i < 2 ^ t.src.bits) :
    ∃ v, s.scale.entry t i = some v ∧ memRead (.scale t) i s = .ok (zext16 v) := by
  obtain ⟨v, hv⟩ := Option.isSome_iff_exists.1 ((ScaleRom.entry_isSome s.scale t i).2 h)
  exact ⟨v, hv, by simp [memRead, romRead, hv]⟩

theorem memRead_scale_outside {s : State} {t : ScaleTable} {i : Nat} (h : 2 ^ t.src.bits ≤ i) :
    memRead (.scale t) i s = .error .chanRange := by
  have : s.scale.entry t i = none := by
    rw [← Option.not_isSome_iff_eq_none, ScaleRom.entry_isSome]; omega
  simp [memRead, romRead, this]

/-! The build agent. -/

@[simp] theorem mem_allIndices (i : Fin 256) : i ∈ allIndices := by
  unfold allIndices
  exact List.mem_finRange i

theorem allIndices_ne_nil : allIndices ≠ [] := List.ne_nil_of_mem (mem_allIndices 0)

theorem allIndices_rising : allIndices.Pairwise (· < ·) := by
  unfold allIndices; exact List.pairwise_lt_finRange 256

theorem allIndices_length : allIndices.length = 256 := by
  unfold allIndices
  exact List.length_finRange

theorem choosePending_mem {l : List (Fin 256)} {k : Nat} {i : Fin 256} (h : choosePending l k = some i) : i ∈ l :=
  List.mem_of_getElem? h

theorem choosePending_of_ne_nil {l : List (Fin 256)} (k : Nat) (h : l ≠ []) : ∃ i, choosePending l k = some i := by
  have hl : k % l.length < l.length := Nat.mod_lt _ (List.length_pos_iff.2 h)
  exact ⟨l[k % l.length], by simp [choosePending, hl]⟩

/-- Some `pick` takes any given pending index: the order of a build is open. -/
theorem choosePending_any {l : List (Fin 256)} {i : Fin 256} (h : i ∈ l) : ∃ k, choosePending l k = some i := by
  obtain ⟨k, hk, rfl⟩ := List.getElem_of_mem h
  exact ⟨k, by simp [choosePending, Nat.mod_eq_of_lt hk, hk]⟩

theorem writeAll_wf {s : State} {bright : Byte} (is : List (Fin 256)) {m : Memory} (h : m.wf = true) :
    (writeAll s bright is m).wf = true := by
  induction is generalizing m with
  | nil => exact h
  | cons i is ih => exact ih (Memory.wf_write _ i.isLt h)

theorem read_writeAll (s : State) (bright : Byte) (is : List (Fin 256)) (m : Memory) (j : Nat) :
    (writeAll s bright is m).read j =
      if h : j < 256 then if (⟨j, h⟩ : Fin 256) ∈ is then some (bgEntry s ⟨j, h⟩ bright) else m.read j else m.read j := by
  induction is generalizing m with
  | nil => simp [writeAll]
  | cons i is ih =>
    rw [writeAll, ih]
    by_cases h : j < 256
    · by_cases hi : i.val = j
      · subst hi; simp
      · have : (⟨j, h⟩ : Fin 256) ≠ i := fun e => hi (by rw [← e])
        simp [h, this, Memory.read_write, hi]
    · have : i.val ≠ j := fun e => h (e ▸ i.isLt)
      simp [h, Memory.read_write, this]

/-- What a scheduled agent step can do: nothing while it is not enabled, one entry, or the whole table. -/
theorem agentStep_cases {k : Nat} {s t : State} (h : agentStep k s = .ok t) :
    (t = s ∧ (s.bgBusy = false ∨ s.bgPending = [])) ∨
    (∃ b i, s.bgBusy = true ∧ s.bgBright = some b ∧ s.cfg.bgAtomicSwap = false ∧ i ∈ s.bgPending ∧ t = writeEntry i b s) ∨
    (∃ b, s.bgBusy = true ∧ s.bgBright = some b ∧ s.cfg.bgAtomicSwap = true ∧ t = swapTable b s) := by
  unfold agentStep at h
  split at h
  · rename_i hb
    cases hbr : s.bgBright with
    | none => simp [hbr] at h
    | some b =>
      simp only [hbr] at h
      split at h
      · exact .inr (.inr ⟨b, hb, rfl, ‹_›, by simpa using h.symm⟩)
      · cases hc : choosePending s.bgPending k with
        | none =>
          simp only [hc, Except.ok.injEq] at h
          refine .inl ⟨h.symm, .inr ?_⟩
          by_contra hne
          obtain ⟨i, hi⟩ := choosePending_of_ne_nil k hne
          simp [hi] at hc
        | some i =>
          simp only [hc, Except.ok.injEq] at h
          exact .inr (.inl ⟨b, i, hb, rfl, by simpa using ‹¬s.cfg.bgAtomicSwap = true›, choosePending_mem hc, h.symm⟩)
  · simp only [Except.ok.injEq] at h
    exact .inl ⟨h.symm, .inl (by simpa using ‹¬s.bgBusy = true›)⟩

/-- The agent steps whenever a brightness is latched while it is enabled. -/
theorem agentStep_ok (k : Nat) {s : State} (h : s.bgBusy = true → s.bgBright ≠ none) : ∃ t, agentStep k s = .ok t := by
  unfold agentStep
  split
  · cases hbr : s.bgBright with
    | none => exact absurd hbr (h ‹_›)
    | some b =>
      simp only
      split
      · exact ⟨_, rfl⟩
      · split <;> exact ⟨_, rfl⟩
  · exact ⟨_, rfl⟩

end Sys2Proof.Machine
end

