-- ==== Sys2Proof/Laws/Exec.lean ====
section
/-! SUPPORT. What an instruction can do and what a step can do, said once (the inversions later proofs cite), and the rescaler's answers on
its legal pairs. -/

namespace Sys2Proof.Machine

/-! The rescaler. -/

/-- A scale table's widths are the pair that names it. -/
theorem scaleTable?_widths {a b : Width} {t : ScaleTable} (h : scaleTable? a b = some t) : t.src = a ∧ t.dst = b := by
  cases a <;> cases b <;> simp [scaleTable?] at h <;> subst h <;> exact ⟨rfl, rfl⟩

/-- On a legal pair and a value of the source width the rescaler answers a value of the destination width. -/
theorem rescale_ok {a b : Width} {v : Nat} (s : State) (hab : rescalePairLegal a b = true) (hv : v < 2 ^ a.bits) :
    ∃ x, rescale a b v s = .ok x ∧ x.toNat < 2 ^ b.bits := by
  have h16 : ∀ w : Width, 2 ^ w.bits ≤ 2 ^ 16 := fun w => by cases w <;> decide
  have small : ∀ n, n < 2 ^ b.bits → (zext16 n).toNat < 2 ^ b.bits := fun n hn => by
    have := h16 b
    rw [zext16, BitVec.toNat_ofNat, Nat.mod_eq_of_lt (by omega)]
    exact hn
  unfold rescale
  split
  · subst_vars; exact ⟨_, rfl, small v hv⟩
  · split
    · refine ⟨_, rfl, small _ ?_⟩
      rw [Nat.shiftRight_eq_div_pow, Nat.div_lt_iff_lt_mul (by positivity), ← pow_add]
      rwa [show b.bits + (a.bits - b.bits) = a.bits by omega]
    · split
      · rename_i hw
        obtain ⟨rfl, rfl⟩ := hw
        refine ⟨_, rfl, small _ ?_⟩
        exact Nat.or_lt_two_pow (n := 16) (by simp only [Width.bits] at hv; omega)
          (by simp only [Width.bits] at hv; omega)
      · rename_i hne hlt hrep
        cases ht : scaleTable? a b with
        | none => simp [rescalePairLegal, ht, hne, hlt] at hab; exact absurd hab hrep
        | some t =>
          obtain ⟨rfl, rfl⟩ := scaleTable?_widths ht
          obtain ⟨w, hw, hr⟩ := memRead_scale (s := s) hv
          exact ⟨_, hr, small _ (ScaleRom.entry_lt hw)⟩

/-- Every pair of channel widths of two formats is legal (41_conversion.md R105). -/
theorem formatPairs_legal (f g : Format) :
    rescalePairLegal f.red g.red = true ∧ rescalePairLegal f.green g.green = true ∧ rescalePairLegal f.blue g.blue = true := by
  cases f <;> cases g <;> decide

/-- The lanes of a conversion of a pixel of the source format are a pixel of the destination format. -/
theorem convLanes_ok {f g : Format} {c : Channels} (s : State) (h : c.fits f = true) :
    ∃ p, convLanes f g c s = .ok p ∧ p.fmt = g ∧ p.fits = true := by
  simp only [Channels.fits, Bool.and_eq_true, decide_eq_true_eq] at h
  obtain ⟨⟨hr, hg⟩, hb⟩ := h
  obtain ⟨lr, lg, lb⟩ := formatPairs_legal f g
  obtain ⟨x, hx, hx'⟩ := rescale_ok s lr hr
  obtain ⟨y, hy, hy'⟩ := rescale_ok s lg hg
  obtain ⟨z, hz, hz'⟩ := rescale_ok s lb hb
  exact ⟨{ fmt := g, r := x, g := y, b := z }, by simp [convLanes, hx, hy, hz], rfl,
    by simp [Pixel.fits, Channels.fits, hx', hy', hz']⟩

/-! Instructions. -/

/-- What an instruction that answers a next state can have done: driven its target bus, taken a fault, or started a build. -/
def DidCommand (o : Op) (s t : State) : Prop :=
  (∃ p, targetOf o = .pix ∧ t = putPix (some p) s) ∨ (∃ v, targetOf o = .dout ∧ t = putDout (some v) s) ∨
  (∃ c, t = raiseFault c (targetOf o) s) ∨ (∃ b, o = .bgbuild ∧ s.bgBusy = false ∧ t = startBuild b s)

theorem DidCommand.of_pixResult {o : Op} {r : Except Cause Pixel} {s t : State} (ho : targetOf o = .pix)
    (h : pixResult r s = .next t) : DidCommand o s t := by
  rcases pixResult_cases h with ⟨p, -, rfl⟩ | ⟨c, -, rfl⟩
  · exact .inl ⟨p, ho, rfl⟩
  · exact .inr (.inr (.inl ⟨c, by rw [ho]⟩))

theorem DidCommand.of_doutResult {o : Op} {r : Except Cause Word} {s t : State} (ho : targetOf o = .dout)
    (h : doutResult r s = .next t) : DidCommand o s t := by
  rcases doutResult_cases h with ⟨v, -, rfl⟩ | ⟨c, -, rfl⟩
  · exact .inr (.inl ⟨v, ho, rfl⟩)
  · exact .inr (.inr (.inl ⟨c, by rw [ho]⟩))

theorem DidCommand.of_execBgbuild {s t : State} (h : execBgbuild s = .next t) : DidCommand .bgbuild s t := by
  unfold execBgbuild at h
  split at h
  · exact .inr (.inr (.inl ⟨_, by simpa [targetOf] using h.symm⟩))
  · split at h
    · exact .inr (.inr (.inl ⟨_, by simpa [targetOf] using h.symm⟩))
    · exact .inr (.inr (.inr ⟨_, rfl, by simpa using ‹¬s.bgBusy = true›, by simpa using h.symm⟩))

/-- The inversion of `exec`. -/
theorem exec_cases {i : Instr} {s t : State} (h : exec i s = .next t) : DidCommand i.op s t := by
  cases i
  case bgbuild => exact .of_execBgbuild h
  case stat => exact .inr (.inl ⟨_, rfl, (Host.Outcome.next.inj h).symm⟩)
  all_goals first
    | exact .of_pixResult rfl h
    | exact .of_doutResult rfl h
    | exact .inl ⟨_, rfl, (Host.Outcome.next.inj h).symm⟩
    | exact .inr (.inr (.inl ⟨_, (Host.Outcome.next.inj h).symm⟩))

/-- No instruction stops: each answers a next state in every state. -/
theorem pixResult_next (r : Except Cause Pixel) (s : State) : ∃ t, pixResult r s = .next t := by cases r <;> exact ⟨_, rfl⟩

theorem doutResult_next (r : Except Cause Word) (s : State) : ∃ t, doutResult r s = .next t := by cases r <;> exact ⟨_, rfl⟩

theorem execBgbuild_next (s : State) : ∃ t, execBgbuild s = .next t := by
  unfold execBgbuild
  split
  · exact ⟨_, rfl⟩
  · split <;> exact ⟨_, rfl⟩

theorem exec_next (i : Instr) (s : State) : ∃ t, exec i s = .next t := by
  cases i
  case bgbuild => exact execBgbuild_next s
  case stat => exact ⟨_, rfl⟩
  all_goals first | exact pixResult_next _ s | exact doutResult_next _ s | exact ⟨_, rfl⟩

/-! Steps. -/

/-- The inversion of `step`: what the next event did. -/
theorem step_cases {s t : State} (h : step s = .next t) :
    (s.script = [] ∧ t = s) ∨
    (∃ q rest i, s.script = .command q :: rest ∧ q.port < s.ports.length ∧ decode q.cmd = .ok i ∧
      exec i (withIssue q (withScript rest s)) = .next t) ∨
    (∃ q rest r, s.script = .command q :: rest ∧ q.port < s.ports.length ∧ decode q.cmd = .error r ∧
      t = illegalCommand (withIssue q (withScript rest s))) ∨
    (∃ k rest, s.script = .buildAgent k :: rest ∧ agentStep k (withScript rest s) = .ok t) ∨
    (∃ rest, s.script = .reset :: rest ∧ t = resetAction (withScript rest s)) := by
  unfold step fetch at h
  cases hs : s.script with
  | nil => simp only [hs] at h; exact .inl ⟨rfl, by simpa using h.symm⟩
  | cons e rest =>
    simp only [hs] at h
    cases e with
    | command q =>
      simp only [applyEvent, acceptCommand] at h
      by_cases hq : q.port < (withScript rest s).ports.length
      · rw [if_pos hq] at h
        cases hd : decode q.cmd with
        | ok i => exact .inr (.inl ⟨q, rest, i, rfl, hq, hd, by simpa [hd] using h⟩)
        | error r => exact .inr (.inr (.inl ⟨q, rest, r, rfl, hq, hd, by simpa [hd] using h.symm⟩))
      · rw [if_neg hq] at h; cases h
    | buildAgent k =>
      simp only [applyEvent] at h
      cases ha : agentStep k (withScript rest s) with
      | ok u => exact .inr (.inr (.inr (.inl ⟨k, rest, rfl, by simpa [ha] using h⟩)))
      | error f => simp [ha] at h
    | reset => exact .inr (.inr (.inr (.inr ⟨rest, rfl, by simpa [applyEvent] using h.symm⟩)))

/-! Runs. -/

theorem run_zero (s : State) : core.run 0 s = .next s := rfl

/-- A run goes on from where its first step leads. -/
theorem run_succ {s t : State} (n : Nat) (h : step s = .next t) : core.run (n + 1) s = core.run n t := by
  simp only [Host.Core.run]
  rw [show core.step s = .next t from h]

end Sys2Proof.Machine
end

