-- ==== Sys2Proof/Laws/Operands.lean ====
section
/-! SUPPORT. The laws of the operand forms: ranges as propositions, and that every pixel a command builds is a pixel of its format
(spec 10_state.md R30). -/

namespace Sys2Proof.Machine

theorem zext16_toNat {n : Nat} (h : n < 2 ^ 16) : (zext16 n).toNat = n := by
  rw [zext16, BitVec.toNat_ofNat, Nat.mod_eq_of_lt h]

@[simp] theorem zext16_self (v : Word) : zext16 v.toNat = v := by simp [zext16]

theorem width_pow_le (w : Width) : 2 ^ w.bits ≤ 2 ^ 16 := by cases w <;> decide

theorem Channels.fits_iff {f : Format} {c : Channels} :
    c.fits f = true ↔ c.r.toNat < 2 ^ f.red.bits ∧ c.g.toNat < 2 ^ f.green.bits ∧ c.b.toNat < 2 ^ f.blue.bits := by
  simp [Channels.fits, and_assoc]

theorem Pixel.fits_iff {p : Pixel} : p.fits = true ↔
    p.r.toNat < 2 ^ p.fmt.red.bits ∧ p.g.toNat < 2 ^ p.fmt.green.bits ∧ p.b.toNat < 2 ^ p.fmt.blue.bits := by
  simp [Pixel.fits, Channels.fits_iff]

/-- `inUnit` is the order of the rationals. -/
theorem inUnit_iff (x : Rat) : inUnit x = true ↔ 0 ≤ x ∧ x ≤ 1 := by
  simp only [inUnit, Bool.and_eq_true, decide_eq_true_eq]
  rw [Rat.num_nonneg]
  refine and_congr_right fun _ => ?_
  rw [Rat.le_iff]
  simp

theorem exactFloor_lt {x : Rat} (n : Nat) (h : inUnit x = true) : exactFloor x n < 2 ^ n := by
  simp only [inUnit, Bool.and_eq_true, decide_eq_true_eq] at h
  have hp : 0 < 2 ^ n := by positivity
  calc exactFloor x n ≤ x.den * (2 ^ n - 1) / x.den := Nat.div_le_div_right (Nat.mul_le_mul_right _ (by omega))
    _ = 2 ^ n - 1 := Nat.mul_div_cancel_left _ x.den_pos
    _ < 2 ^ n := by omega

/-- NORM_PRODUCT of a component in [0, 1] fits its channel, whatever the parameter. -/
theorem normProduct_fits (p : NormProduct) {x : Rat} (w : Width) (h : inUnit x = true) : normProduct p x w < 2 ^ w.bits := by
  have hp : 0 < 2 ^ w.bits := by positivity
  cases p with
  | exactFloor => exact exactFloor_lt _ h
  | implementation =>
    simp only [normProduct, implementationProduct]
    split
    · exact hp
    · split
      · omega
      · exact Nat.mod_lt _ hp

theorem maskPixel_fits (f : Format) (c : Channels) : (maskPixel f c).fits = true := by
  rw [Pixel.fits_iff]
  have h : ∀ (n : Nat) (w : Width), (zext16 (n % 2 ^ w.bits)).toNat < 2 ^ w.bits := fun n w => by
    have hm := Nat.mod_lt n (show 0 < 2 ^ w.bits by positivity)
    rw [zext16_toNat (lt_of_lt_of_le hm (width_pow_le w))]
    exact hm
  exact ⟨h _ f.red, h _ f.green, h _ f.blue⟩

theorem normPixel_fits (p : NormProduct) (f : Format) {n : NormIn} (h : n.inUnit = true) : (normPixel p f n).fits = true := by
  simp only [NormIn.inUnit, Bool.and_eq_true] at h
  rw [Pixel.fits_iff]
  have hz : ∀ {x : Rat} (w : Width), inUnit x = true → (zext16 (normProduct p x w)).toNat < 2 ^ w.bits := fun w hx => by
    have hm := normProduct_fits p w hx
    rw [zext16_toNat (lt_of_lt_of_le hm (width_pow_le w))]
    exact hm
  exact ⟨hz f.red h.1.1, hz f.green h.1.2, hz f.blue h.2⟩

/-- The lanes of both colour corrections are a pixel of the destination format. -/
theorem colorLanes_fits {dst : Format} {shift : Nat} {c : Channels} {s : State} {p : Pixel}
    (hd : (dst = .standard24 ∧ shift = 8) ∨ (dst = .wide48 ∧ shift = 0)) (h : colorLanes dst shift c s = .ok p) :
    p.fits = true := by
  unfold colorLanes at h
  split at h
  · rename_i r g b _ _ _
    cases h
    have := r.isLt
    have := g.isLt
    have := b.isLt
    rw [Pixel.fits_iff]
    rcases hd with ⟨rfl, rfl⟩ | ⟨rfl, rfl⟩ <;>
      simp [Format.red, Format.green, Format.blue, Width.bits, Nat.shiftRight_eq_div_pow] <;> omega
  all_goals cases h

end Sys2Proof.Machine
end

