-- ==== Sys2Proof/Laws/PerInstr.lean ====
section
/-! SUPPORT. The law family `Coding`, one lemma per instruction of spec/opcode_table.json: the instruction is well formed
(30_encoding.md R66, R67), its word decodes to it (R65, R69), and its operation names it. -/

namespace Sys2Proof.Laws.Coding

/-- Well formed, read back from its own word, and named by its own operation. -/
def Statement (i : Instr) : Prop :=
  i.wf = true ∧ decode (encode i) = .ok i ∧ i.op.instr? = some i

theorem convNarrow8Narrow8 : Statement .convNarrow8Narrow8 := ⟨rfl, rfl, rfl⟩
theorem convNarrow8Mid16 : Statement .convNarrow8Mid16 := ⟨rfl, rfl, rfl⟩
theorem convNarrow8Standard24 : Statement .convNarrow8Standard24 := ⟨rfl, rfl, rfl⟩
theorem convNarrow8Wide48 : Statement .convNarrow8Wide48 := ⟨rfl, rfl, rfl⟩
theorem convMid16Narrow8 : Statement .convMid16Narrow8 := ⟨rfl, rfl, rfl⟩
theorem convMid16Mid16 : Statement .convMid16Mid16 := ⟨rfl, rfl, rfl⟩
theorem convMid16Standard24 : Statement .convMid16Standard24 := ⟨rfl, rfl, rfl⟩
theorem convMid16Wide48 : Statement .convMid16Wide48 := ⟨rfl, rfl, rfl⟩
theorem convStandard24Narrow8 : Statement .convStandard24Narrow8 := ⟨rfl, rfl, rfl⟩
theorem convStandard24Mid16 : Statement .convStandard24Mid16 := ⟨rfl, rfl, rfl⟩
theorem convStandard24Standard24 : Statement .convStandard24Standard24 := ⟨rfl, rfl, rfl⟩
theorem convStandard24Wide48 : Statement .convStandard24Wide48 := ⟨rfl, rfl, rfl⟩
theorem convWide48Narrow8 : Statement .convWide48Narrow8 := ⟨rfl, rfl, rfl⟩
theorem convWide48Mid16 : Statement .convWide48Mid16 := ⟨rfl, rfl, rfl⟩
theorem convWide48Standard24 : Statement .convWide48Standard24 := ⟨rfl, rfl, rfl⟩
theorem convWide48Wide48 : Statement .convWide48Wide48 := ⟨rfl, rfl, rfl⟩
theorem mkrawNarrow8 : Statement .mkrawNarrow8 := ⟨rfl, rfl, rfl⟩
theorem mkrawMid16 : Statement .mkrawMid16 := ⟨rfl, rfl, rfl⟩
theorem mkrawStandard24 : Statement .mkrawStandard24 := ⟨rfl, rfl, rfl⟩
theorem mkrawWide48 : Statement .mkrawWide48 := ⟨rfl, rfl, rfl⟩
theorem mknormNarrow8 : Statement .mknormNarrow8 := ⟨rfl, rfl, rfl⟩
theorem mknormMid16 : Statement .mknormMid16 := ⟨rfl, rfl, rfl⟩
theorem mknormStandard24 : Statement .mknormStandard24 := ⟨rfl, rfl, rfl⟩
theorem mknormWide48 : Statement .mknormWide48 := ⟨rfl, rfl, rfl⟩
theorem rescale2To2 : Statement .rescale2To2 := ⟨rfl, rfl, rfl⟩
theorem rescale2To5 : Statement .rescale2To5 := ⟨rfl, rfl, rfl⟩
theorem rescale2To8 : Statement .rescale2To8 := ⟨rfl, rfl, rfl⟩
theorem rescale2To16 : Statement .rescale2To16 := ⟨rfl, rfl, rfl⟩
theorem rescale3To2 : Statement .rescale3To2 := ⟨rfl, rfl, rfl⟩
theorem rescale3To3 : Statement .rescale3To3 := ⟨rfl, rfl, rfl⟩
theorem rescale3To5 : Statement .rescale3To5 := ⟨rfl, rfl, rfl⟩
theorem rescale3To6 : Statement .rescale3To6 := ⟨rfl, rfl, rfl⟩
theorem rescale3To8 : Statement .rescale3To8 := ⟨rfl, rfl, rfl⟩
theorem rescale3To16 : Statement .rescale3To16 := ⟨rfl, rfl, rfl⟩
theorem rescale5To2 : Statement .rescale5To2 := ⟨rfl, rfl, rfl⟩
theorem rescale5To3 : Statement .rescale5To3 := ⟨rfl, rfl, rfl⟩
theorem rescale5To5 : Statement .rescale5To5 := ⟨rfl, rfl, rfl⟩
theorem rescale5To8 : Statement .rescale5To8 := ⟨rfl, rfl, rfl⟩
theorem rescale5To16 : Statement .rescale5To16 := ⟨rfl, rfl, rfl⟩
theorem rescale6To2 : Statement .rescale6To2 := ⟨rfl, rfl, rfl⟩
theorem rescale6To3 : Statement .rescale6To3 := ⟨rfl, rfl, rfl⟩
theorem rescale6To5 : Statement .rescale6To5 := ⟨rfl, rfl, rfl⟩
theorem rescale6To6 : Statement .rescale6To6 := ⟨rfl, rfl, rfl⟩
theorem rescale6To8 : Statement .rescale6To8 := ⟨rfl, rfl, rfl⟩
theorem rescale6To16 : Statement .rescale6To16 := ⟨rfl, rfl, rfl⟩
theorem rescale8To2 : Statement .rescale8To2 := ⟨rfl, rfl, rfl⟩
theorem rescale8To3 : Statement .rescale8To3 := ⟨rfl, rfl, rfl⟩
theorem rescale8To5 : Statement .rescale8To5 := ⟨rfl, rfl, rfl⟩
theorem rescale8To6 : Statement .rescale8To6 := ⟨rfl, rfl, rfl⟩
theorem rescale8To8 : Statement .rescale8To8 := ⟨rfl, rfl, rfl⟩
theorem rescale8To16 : Statement .rescale8To16 := ⟨rfl, rfl, rfl⟩
theorem rescale16To2 : Statement .rescale16To2 := ⟨rfl, rfl, rfl⟩
theorem rescale16To3 : Statement .rescale16To3 := ⟨rfl, rfl, rfl⟩
theorem rescale16To5 : Statement .rescale16To5 := ⟨rfl, rfl, rfl⟩
theorem rescale16To6 : Statement .rescale16To6 := ⟨rfl, rfl, rfl⟩
theorem rescale16To8 : Statement .rescale16To8 := ⟨rfl, rfl, rfl⟩
theorem rescale16To16 : Statement .rescale16To16 := ⟨rfl, rfl, rfl⟩
theorem slut2To5 : Statement .slut2To5 := ⟨rfl, rfl, rfl⟩
theorem slut2To8 : Statement .slut2To8 := ⟨rfl, rfl, rfl⟩
theorem slut2To16 : Statement .slut2To16 := ⟨rfl, rfl, rfl⟩
theorem slut3To5 : Statement .slut3To5 := ⟨rfl, rfl, rfl⟩
theorem slut3To6 : Statement .slut3To6 := ⟨rfl, rfl, rfl⟩
theorem slut3To8 : Statement .slut3To8 := ⟨rfl, rfl, rfl⟩
theorem slut3To16 : Statement .slut3To16 := ⟨rfl, rfl, rfl⟩
theorem slut5To8 : Statement .slut5To8 := ⟨rfl, rfl, rfl⟩
theorem slut5To16 : Statement .slut5To16 := ⟨rfl, rfl, rfl⟩
theorem slut6To8 : Statement .slut6To8 := ⟨rfl, rfl, rfl⟩
theorem slut6To16 : Statement .slut6To16 := ⟨rfl, rfl, rfl⟩
theorem gamma8 : Statement .gamma8 := ⟨rfl, rfl, rfl⟩
theorem gamma16 : Statement .gamma16 := ⟨rfl, rfl, rfl⟩
theorem ccNarrow8Standard24 : Statement .ccNarrow8Standard24 := ⟨rfl, rfl, rfl⟩
theorem ccNarrow8Wide48 : Statement .ccNarrow8Wide48 := ⟨rfl, rfl, rfl⟩
theorem ccMid16Standard24 : Statement .ccMid16Standard24 := ⟨rfl, rfl, rfl⟩
theorem ccMid16Wide48 : Statement .ccMid16Wide48 := ⟨rfl, rfl, rfl⟩
theorem ccStandard24Standard24 : Statement .ccStandard24Standard24 := ⟨rfl, rfl, rfl⟩
theorem ccStandard24Wide48 : Statement .ccStandard24Wide48 := ⟨rfl, rfl, rfl⟩
theorem ccWide48Standard24 : Statement .ccWide48Standard24 := ⟨rfl, rfl, rfl⟩
theorem ccWide48Wide48 : Statement .ccWide48Wide48 := ⟨rfl, rfl, rfl⟩
theorem bgbuild : Statement .bgbuild := ⟨rfl, rfl, rfl⟩
theorem bgread : Statement .bgread := ⟨rfl, rfl, rfl⟩
theorem stat : Statement .stat := ⟨rfl, rfl, rfl⟩

end Sys2Proof.Laws.Coding
end

