-- ==== Sys2Proof/Laws/Rom.lean ====
section
/-! SUPPORT. The laws of the running maximum that brings the free gamma tables within their limits. -/

namespace Sys2Proof.Machine

@[simp] theorem runningMax_zero (f : Nat → Nat) : runningMax f 0 = 0 := rfl

theorem runningMax_succ (f : Nat → Nat) (i : Nat) : runningMax f (i + 1) = max (runningMax f i) (f (i + 1)) := rfl

theorem runningMax_mono (f : Nat → Nat) {i j : Nat} (h : i ≤ j) : runningMax f i ≤ runningMax f j := by
  induction h with
  | refl => exact le_rfl
  | step _ ih => exact le_trans ih (le_max_left _ _)

theorem runningMax_le {f : Nat → Nat} {n : Nat} (h : ∀ i, f i ≤ n) (i : Nat) : runningMax f i ≤ n := by
  induction i with
  | zero => exact Nat.zero_le n
  | succ i ih => exact max_le ih (h (i + 1))

/-- On numbers that already rise from 0 the running maximum changes nothing. -/
theorem runningMax_of_rising {f : Nat → Nat} {n : Nat} (h0 : f 0 = 0) (h : ∀ i, i < n → f i ≤ f (i + 1)) :
    ∀ i, i ≤ n → runningMax f i = f i := by
  intro i hi
  induction i with
  | zero => exact h0.symm
  | succ i ih => rw [runningMax_succ, ih (by omega), max_eq_right (h i (by omega))]

end Sys2Proof.Machine
end

