-- ==== Sys2Proof/Tests/Slice0.lean ====
section
/-! SUPPORT. The model's own tests: ill-formed terms refused, words written out from the spec's encodings, single steps from
95_test_vectors.md, and for every statement with hypotheses a witness that meets them. -/

namespace Sys2Proof.Tests

open Sys2Proof.Machine

/-! Ill-formed terms: one for each check of WellFormed.lean (30_encoding.md R66, R67). -/

/-- The three widening pairs with no rule, among the four kinds of pair R66 lists. -/
theorem test_wf_rescale_pairs :
    [Op.rescale .w2 .w3, .rescale .w2 .w6, .rescale .w5 .w6].map Op.wf = [false, false, false] ∧
    [Op.rescale .w5 .w5, .rescale .w16 .w2, .rescale .w6 .w16, .rescale .w8 .w16].map Op.wf = [true, true, true, true] := by decide

/-- SLUT 8,16 (replication is no table), 5,2 (narrowing), 2,2 (identity), 2,3 (no rule). -/
theorem test_wf_slut_pairs :
    [Op.slut .w8 .w16, .slut .w5 .w2, .slut .w2 .w2, .slut .w2 .w3].map Op.wf = [false, false, false, false] := by decide

/-- CC to narrow8 and mid16, from any source. -/
theorem test_wf_cc_destinations :
    [Op.cc .standard24 .narrow8, .cc .standard24 .mid16, .cc .wide48 .narrow8, .cc .standard24 .wide48].map Op.wf =
      [false, false, false, true] := by decide

/-- What well-formedness refuses no word decodes to. -/
theorem test_wf_no_instruction :
    [Op.rescale .w2 .w3, .rescale .w2 .w6, .rescale .w5 .w6, .slut .w8 .w16, .cc .standard24 .mid16].map Op.instr? =
      [none, none, none, none, none] := by decide

/-! Decoding. -/

/-- The formats' fields, bit by bit (30_encoding.md R62, R65): opcode, then formats or width codes, then zeros. -/
theorem test_decode_bits :
    [0b0000000100000000#16, 0b0001110000000000#16, 0b0010010000000000#16, 0b0011001101000000#16, 0b0100011100000000#16,
      0b0111101100000000#16].map decode =
      [.ok .convNarrow8Mid16, .ok .mkrawWide48, .ok .mknormMid16, .ok .rescale3To16, .ok .slut6To8, .ok .ccStandard24Wide48] := by decide

/-- Words from 30_encoding.md R65 (match column) and 95_test_vectors.md. -/
theorem test_decode_conv :
    ([0x0000#16, 0x0100#16, 0x0200#16, 0x0300#16, 0x0400#16, 0x0500#16, 0x0600#16, 0x0700#16, 0x0800#16, 0x0900#16, 0x0A00#16, 0x0B00#16, 0x0C00#16, 0x0D00#16, 0x0E00#16, 0x0F00#16].map decode) =
      [.ok .convNarrow8Narrow8, .ok .convNarrow8Mid16, .ok .convNarrow8Standard24, .ok .convNarrow8Wide48, .ok .convMid16Narrow8, .ok .convMid16Mid16, .ok .convMid16Standard24, .ok .convMid16Wide48, .ok .convStandard24Narrow8, .ok .convStandard24Mid16, .ok .convStandard24Standard24, .ok .convStandard24Wide48, .ok .convWide48Narrow8, .ok .convWide48Mid16, .ok .convWide48Standard24, .ok .convWide48Wide48] := by decide

/-- Words from 30_encoding.md R65 (match column) and 95_test_vectors.md. -/
theorem test_decode_mkraw :
    ([0x1000#16, 0x1400#16, 0x1800#16, 0x1C00#16].map decode) =
      [.ok .mkrawNarrow8, .ok .mkrawMid16, .ok .mkrawStandard24, .ok .mkrawWide48] := by decide

/-- Words from 30_encoding.md R65 (match column) and 95_test_vectors.md. -/
theorem test_decode_mknorm :
    ([0x2000#16, 0x2400#16, 0x2800#16, 0x2C00#16].map decode) =
      [.ok .mknormNarrow8, .ok .mknormMid16, .ok .mknormStandard24, .ok .mknormWide48] := by decide

/-- Words from 30_encoding.md R65 (match column) and 95_test_vectors.md. -/
theorem test_decode_rescale_1 :
    ([0x3000#16, 0x3080#16, 0x3100#16, 0x3140#16, 0x3200#16, 0x3240#16, 0x3280#16, 0x32C0#16, 0x3300#16, 0x3340#16, 0x3400#16, 0x3440#16, 0x3480#16, 0x3500#16, 0x3540#16, 0x3600#16, 0x3640#16].map decode) =
      [.ok .rescale2To2, .ok .rescale2To5, .ok .rescale2To8, .ok .rescale2To16, .ok .rescale3To2, .ok .rescale3To3, .ok .rescale3To5, .ok .rescale3To6, .ok .rescale3To8, .ok .rescale3To16, .ok .rescale5To2, .ok .rescale5To3, .ok .rescale5To5, .ok .rescale5To8, .ok .rescale5To16, .ok .rescale6To2, .ok .rescale6To3] := by decide

/-- Words from 30_encoding.md R65 (match column) and 95_test_vectors.md. -/
theorem test_decode_rescale_2 :
    ([0x3680#16, 0x36C0#16, 0x3700#16, 0x3740#16, 0x3800#16, 0x3840#16, 0x3880#16, 0x38C0#16, 0x3900#16, 0x3940#16, 0x3A00#16, 0x3A40#16, 0x3A80#16, 0x3AC0#16, 0x3B00#16, 0x3B40#16].map decode) =
      [.ok .rescale6To5, .ok .rescale6To6, .ok .rescale6To8, .ok .rescale6To16, .ok .rescale8To2, .ok .rescale8To3, .ok .rescale8To5, .ok .rescale8To6, .ok .rescale8To8, .ok .rescale8To16, .ok .rescale16To2, .ok .rescale16To3, .ok .rescale16To5, .ok .rescale16To6, .ok .rescale16To8, .ok .rescale16To16] := by decide

/-- Words from 30_encoding.md R65 (R109 lists the same) and 95_test_vectors.md. -/
theorem test_decode_slut :
    ([0x4080#16, 0x4100#16, 0x4140#16, 0x4280#16, 0x42C0#16, 0x4300#16, 0x4340#16, 0x4500#16, 0x4540#16, 0x4700#16, 0x4740#16].map decode) =
      [.ok .slut2To5, .ok .slut2To8, .ok .slut2To16, .ok .slut3To5, .ok .slut3To6, .ok .slut3To8, .ok .slut3To16, .ok .slut5To8, .ok .slut5To16, .ok .slut6To8, .ok .slut6To16] := by decide

/-- Words from 30_encoding.md R65 (match column) and 95_test_vectors.md. -/
theorem test_decode_gamma8 :
    ([0x5000#16].map decode) =
      [.ok .gamma8] := by decide

/-- Words from 30_encoding.md R65 (match column) and 95_test_vectors.md. -/
theorem test_decode_gamma16 :
    ([0x6000#16].map decode) =
      [.ok .gamma16] := by decide

/-- Words from 30_encoding.md R65 (match column) and 95_test_vectors.md. -/
theorem test_decode_cc :
    ([0x7200#16, 0x7300#16, 0x7600#16, 0x7700#16, 0x7A00#16, 0x7B00#16, 0x7E00#16, 0x7F00#16].map decode) =
      [.ok .ccNarrow8Standard24, .ok .ccNarrow8Wide48, .ok .ccMid16Standard24, .ok .ccMid16Wide48, .ok .ccStandard24Standard24, .ok .ccStandard24Wide48, .ok .ccWide48Standard24, .ok .ccWide48Wide48] := by decide

/-- Words from 30_encoding.md R65 (match column) and 95_test_vectors.md. -/
theorem test_decode_bgbuild :
    ([0x8000#16].map decode) =
      [.ok .bgbuild] := by decide

/-- Words from 30_encoding.md R65 (match column) and 95_test_vectors.md. -/
theorem test_decode_bgread :
    ([0x9000#16].map decode) =
      [.ok .bgread] := by decide

/-- Words from 30_encoding.md R65 (match column) and 95_test_vectors.md. -/
theorem test_decode_stat :
    ([0xA000#16].map decode) =
      [.ok .stat] := by decide

/-- The illegal words of 95_test_vectors.md L2.3, L2.4, L2.7, L2.10, by the model's names (log 19). -/
theorem test_decode_illegal_names :
    [0xB000#16, 0xFFFF#16, 0x3040#16, 0x30C0#16, 0x34C0#16, 0x3C00#16, 0x31C0#16, 0x4940#16, 0x4040#16, 0x4400#16, 0x4000#16,
      0x7800#16, 0x7900#16].map decode =
      [.error .reservedOpcode, .error .reservedOpcode, .error .noRescaleRule, .error .noRescaleRule, .error .noRescaleRule,
        .error .reservedWidthCode, .error .reservedWidthCode, .error .noScaleTable, .error .noScaleTable, .error .noScaleTable,
        .error .noScaleTable, .error .ccDestination, .error .ccDestination] := by decide

/-- A reserved bit set in each format (95_test_vectors.md L2.3, L2.5, L2.6, L2.8, L2.9). -/
theorem test_decode_reserved_bits :
    [0x0040#16, 0x0301#16, 0x1001#16, 0x2200#16, 0x3001#16, 0x4081#16, 0x5001#16, 0x6100#16, 0x7A01#16, 0x8001#16, 0x9100#16,
      0xA001#16].map decode =
      List.replicate 12 (.error .reservedBits) := by decide

/-- The encoder against the words of 95_test_vectors.md. -/
theorem test_encode_words :
    [Instr.convMid16Standard24, .mkrawMid16, .mknormWide48, .rescale16To8, .slut5To16, .gamma8, .gamma16, .ccWide48Wide48,
      .bgbuild, .bgread, .stat].map encode =
      [0x0600#16, 0x1400#16, 0x2C00#16, 0x3B00#16, 0x4540#16, 0x5000#16, 0x6000#16, 0x7F00#16, 0x8000#16, 0x9000#16, 0xA000#16] := by
  decide

/-- The opcode table's numbering: 16 bits, and no PFMC instruction is longer (30_encoding.md R60, R70). -/
theorem test_decodeTableWord :
    decodeTableWord 16 0x3940 = some .rescale8To16 ∧ decodeTableWord 16 0xB000 = none ∧ decodeTableWord 32 0x3940 = none ∧
    decodeTableWord 8 0x00 = some .convNarrow8Narrow8 := by decide

/-! Test states. -/

/-- A GAMMA16 table within 42_gamma.md R142. -/
def gamma16Test : Vector (BitVec 16) 256 := Vector.ofFn fun i => BitVec.ofNat 16 (257 * i.val)

/-- A GAMMA8 table within 42_gamma.md R141. -/
def gamma8Test : Vector (BitVec 8) 256 := Vector.ofFn fun i => BitVec.ofNat 8 (i.val * 252 / 255)

/-- A port whose buses hold something. -/
def heldPort : PortOut := { pix := some { fmt := .narrow8, r := 1, g := 2, b := 3 }, dout := some 9 }

/-- Two ports with held buses, no build, no fault, the script given. -/
def quiet (es : List Event) : State where
  cfg := Params.default
  scale := scaleContents
  gamma8 := gamma8Test
  gamma16 := gamma16Test
  bglut := []
  bgBusy := false
  bgBright := none
  bgPending := []
  fault := false
  cause := 0
  ports := [heldPort, heldPort]
  issue := Issue.quiet
  script := es

/-- A command on port 0. -/
def issued (w : Word) (c : Channels) (d : Word) : Issue :=
  { port := 0, cmd := w, pixIn := c, din := d, normIn := { r := 0, g := 0, b := 0 } }

/-- The buses of port 0 and CAUSE after a step; none if it stopped. -/
def seen (r : Result) : Option (Option Pixel × Option Word × BitVec 4) :=
  match r with
  | .next t => t.ports.head?.map fun o => (o.pix, o.dout, t.cause)
  | .fault _ => none
  | .refused _ => none

/-- One command with channels on `pix_in`: `pix_out` and CAUSE. -/
def pixAfter (w : Word) (r g b : Word) : Option (Option Pixel × BitVec 4) :=
  (seen (step (quiet [.command (issued w { r := r, g := g, b := b } 0)]))).map fun x => (x.1, x.2.2)

/-- One command with a value on `din`: `dout` and CAUSE. -/
def doutAfter (w d : Word) : Option (Option Word × BitVec 4) :=
  (seen (step (quiet [.command (issued w { r := 0, g := 0, b := 0 } d)]))).map Prod.snd

/-- `dout` alone, for a table of vectors. -/
def douts (w : Word) (ds : List Word) : List (Option Word) := ds.map fun d => (doutAfter w d).bind Prod.fst

/-- A rational in lowest terms. -/
def ratio (n : Int) (d : Nat) (hd : d ≠ 0 := by decide) (hc : n.natAbs.Coprime d := by decide) : Rat := ⟨n, d, hd, hc⟩

/-- One MKNORM: `pix_out` and CAUSE. -/
def normAfter (w : Word) (n : NormIn) : Option (Option Pixel × BitVec 4) :=
  (seen (step (quiet [.command { port := 0, cmd := w, pixIn := { r := 0, g := 0, b := 0 }, din := 0, normIn := n }]))).map
    fun x => (x.1, x.2.2)

/-! Single steps, from 95_test_vectors.md. -/

/-- L2.1. -/
theorem test_mkraw_masks :
    pixAfter 0x1000 13 7 6 = some (some { fmt := .narrow8, r := 5, g := 7, b := 2 }, 0) ∧
    pixAfter 0x1400 40 100 31 = some (some { fmt := .mid16, r := 8, g := 36, b := 31 }, 0) ∧
    pixAfter 0x1800 256 300 255 = some (some { fmt := .standard24, r := 0, g := 44, b := 255 }, 0) ∧
    pixAfter 0x1C00 65535 0 1 = some (some { fmt := .wide48, r := 65535, g := 0, b := 1 }, 0) := by decide +kernel

/-- L2.2, in range. -/
theorem test_mknorm_floors :
    normAfter 0x2000 { r := ratio 1 1, g := ratio 0 1, b := ratio 1 2 } = some (some { fmt := .narrow8, r := 7, g := 0, b := 1 }, 0) ∧
    normAfter 0x2400 { r := ratio 1 4, g := ratio 1 4, b := ratio 1 4 } = some (some { fmt := .mid16, r := 7, g := 15, b := 7 }, 0) ∧
    normAfter 0x2800 { r := ratio 128 255, g := ratio 1 255, b := ratio 0 1 } =
      some (some { fmt := .standard24, r := 128, g := 1, b := 0 }, 0) ∧
    normAfter 0x2C00 { r := ratio 1 4, g := ratio 1 1, b := ratio 0 1 } =
      some (some { fmt := .wide48, r := 16383, g := 65535, b := 0 }, 0) := by decide +kernel

/-- L2.2, outside [0, 1]: cause 4, `pix_out` ⊥. -/
theorem test_mknorm_domain :
    normAfter 0x2000 { r := ratio 101 100, g := ratio 0 1, b := ratio 0 1 } = some (none, 4) ∧
    normAfter 0x2400 { r := ratio (-1) 1000, g := ratio 0 1, b := ratio 0 1 } = some (none, 4) ∧
    normAfter 0x2800 { r := ratio 0 1, g := ratio 0 1, b := ratio 3 2 } = some (none, 4) ∧
    normAfter 0x2C00 { r := ratio 0 1, g := ratio (-1) 2, b := ratio 0 1 } = some (none, 4) := by decide +kernel

/-- L2.3, the pairs from 2, 3 and 5 bits: 0, 1, the middle and the greatest value. -/
theorem test_rescale_tables_1 :
    [douts 0x3000#16 [0, 1, 2, 3],
      douts 0x3080#16 [0, 1, 2, 3],
      douts 0x3100#16 [0, 1, 2, 3],
      douts 0x3140#16 [0, 1, 2, 3],
      douts 0x3200#16 [0, 1, 4, 7],
      douts 0x3240#16 [0, 1, 4, 7],
      douts 0x3280#16 [0, 1, 4, 7],
      douts 0x32C0#16 [0, 1, 4, 7],
      douts 0x3300#16 [0, 1, 4, 7],
      douts 0x3340#16 [0, 1, 4, 7],
      douts 0x3400#16 [0, 1, 16, 31],
      douts 0x3440#16 [0, 1, 16, 31],
      douts 0x3480#16 [0, 1, 16, 31],
      douts 0x3500#16 [0, 1, 16, 31],
      douts 0x3540#16 [0, 1, 16, 31]] =
      [[some 0, some 1, some 2, some 3], [some 0, some 10, some 21, some 31], [some 0, some 85, some 170, some 255], [some 0, some 21845, some 43690, some 65535], [some 0, some 0, some 2, some 3], [some 0, some 1, some 4, some 7], [some 0, some 4, some 18, some 31], [some 0, some 9, some 36, some 63], [some 0, some 36, some 146, some 255], [some 0, some 9362, some 37449, some 65535], [some 0, some 0, some 2, some 3], [some 0, some 0, some 4, some 7], [some 0, some 1, some 16, some 31], [some 0, some 8, some 132, some 255], [some 0, some 2114, some 33825, some 65535]] := by decide +kernel

/-- L2.3, the pairs from 6, 8 and 16 bits: 0, 1, the middle and the greatest value. -/
theorem test_rescale_tables_2 :
    [douts 0x3600#16 [0, 1, 32, 63],
      douts 0x3640#16 [0, 1, 32, 63],
      douts 0x3680#16 [0, 1, 32, 63],
      douts 0x36C0#16 [0, 1, 32, 63],
      douts 0x3700#16 [0, 1, 32, 63],
      douts 0x3740#16 [0, 1, 32, 63],
      douts 0x3800#16 [0, 1, 128, 255],
      douts 0x3840#16 [0, 1, 128, 255],
      douts 0x3880#16 [0, 1, 128, 255],
      douts 0x38C0#16 [0, 1, 128, 255],
      douts 0x3900#16 [0, 1, 128, 255],
      douts 0x3940#16 [0, 1, 128, 255],
      douts 0x3A00#16 [0, 1, 32768, 65535],
      douts 0x3A40#16 [0, 1, 32768, 65535],
      douts 0x3A80#16 [0, 1, 32768, 65535],
      douts 0x3AC0#16 [0, 1, 32768, 65535],
      douts 0x3B00#16 [0, 1, 32768, 65535],
      douts 0x3B40#16 [0, 1, 32768, 65535]] =
      [[some 0, some 0, some 2, some 3], [some 0, some 0, some 4, some 7], [some 0, some 0, some 16, some 31], [some 0, some 1, some 32, some 63], [some 0, some 4, some 130, some 255], [some 0, some 1040, some 33288, some 65535], [some 0, some 0, some 2, some 3], [some 0, some 0, some 4, some 7], [some 0, some 0, some 16, some 31], [some 0, some 0, some 32, some 63], [some 0, some 1, some 128, some 255], [some 0, some 257, some 32896, some 65535], [some 0, some 0, some 2, some 3], [some 0, some 0, some 4, some 7], [some 0, some 0, some 16, some 31], [some 0, some 0, some 32, some 63], [some 0, some 0, some 128, some 255], [some 0, some 1, some 32768, some 65535]] := by decide +kernel

/-- L2.3: `din = 2^a` faults CHAN_RANGE for every pair with `a < 16`. -/
theorem test_rescale_range :
    [doutAfter 0x3000 4, doutAfter 0x3080 4, doutAfter 0x3100 4, doutAfter 0x3140 4, doutAfter 0x3200 8, doutAfter 0x3240 8, doutAfter 0x3280 8, doutAfter 0x32C0 8, doutAfter 0x3300 8, doutAfter 0x3340 8, doutAfter 0x3400 32, doutAfter 0x3440 32, doutAfter 0x3480 32, doutAfter 0x3500 32, doutAfter 0x3540 32, doutAfter 0x3600 64, doutAfter 0x3640 64, doutAfter 0x3680 64, doutAfter 0x36C0 64, doutAfter 0x3700 64, doutAfter 0x3740 64, doutAfter 0x3800 256, doutAfter 0x3840 256, doutAfter 0x3880 256, doutAfter 0x38C0 256, doutAfter 0x3900 256, doutAfter 0x3940 256] =
      List.replicate 27 (some (none, 2)) := by decide +kernel

/-- L2.4: 0, 1, the last two entries. -/
theorem test_slut_tables :
    [douts 0x4080#16 [0, 1, 2, 3],
      douts 0x4100#16 [0, 1, 2, 3],
      douts 0x4140#16 [0, 1, 2, 3],
      douts 0x4280#16 [0, 1, 6, 7],
      douts 0x42C0#16 [0, 1, 6, 7],
      douts 0x4300#16 [0, 1, 6, 7],
      douts 0x4340#16 [0, 1, 6, 7],
      douts 0x4500#16 [0, 1, 30, 31],
      douts 0x4540#16 [0, 1, 30, 31],
      douts 0x4700#16 [0, 1, 62, 63],
      douts 0x4740#16 [0, 1, 62, 63]] =
      [[some 0, some 10, some 21, some 31], [some 0, some 85, some 170, some 255], [some 0, some 21845, some 43690, some 65535], [some 0, some 4, some 27, some 31], [some 0, some 9, some 54, some 63], [some 0, some 36, some 219, some 255], [some 0, some 9362, some 56173, some 65535], [some 0, some 8, some 247, some 255], [some 0, some 2114, some 63421, some 65535], [some 0, some 4, some 251, some 255], [some 0, some 1040, some 64495, some 65535]] := by decide +kernel

/-- L2.4: `din = 2^a` faults CHAN_RANGE. -/
theorem test_slut_range :
    [doutAfter 0x4080 4, doutAfter 0x4100 4, doutAfter 0x4140 4, doutAfter 0x4280 8, doutAfter 0x42C0 8, doutAfter 0x4300 8, doutAfter 0x4340 8, doutAfter 0x4500 32, doutAfter 0x4540 32, doutAfter 0x4700 64, doutAfter 0x4740 64] =
      List.replicate 11 (some (none, 2)) := by decide +kernel

/-- L2.5: the middle pixel of all 16 conversions. -/
theorem test_conv_middle :
    [pixAfter 0x0000 4 4 2,
      pixAfter 0x0100 4 4 2,
      pixAfter 0x0200 4 4 2,
      pixAfter 0x0300 4 4 2,
      pixAfter 0x0400 16 32 16,
      pixAfter 0x0500 16 32 16,
      pixAfter 0x0600 16 32 16,
      pixAfter 0x0700 16 32 16,
      pixAfter 0x0800 128 128 128,
      pixAfter 0x0900 128 128 128,
      pixAfter 0x0A00 128 128 128,
      pixAfter 0x0B00 128 128 128,
      pixAfter 0x0C00 32768 32768 32768,
      pixAfter 0x0D00 32768 32768 32768,
      pixAfter 0x0E00 32768 32768 32768,
      pixAfter 0x0F00 32768 32768 32768] =
      [some (some { fmt := .narrow8, r := 4, g := 4, b := 2 }, 0),
        some (some { fmt := .mid16, r := 18, g := 36, b := 21 }, 0),
        some (some { fmt := .standard24, r := 146, g := 146, b := 170 }, 0),
        some (some { fmt := .wide48, r := 37449, g := 37449, b := 43690 }, 0),
        some (some { fmt := .narrow8, r := 4, g := 4, b := 2 }, 0),
        some (some { fmt := .mid16, r := 16, g := 32, b := 16 }, 0),
        some (some { fmt := .standard24, r := 132, g := 130, b := 132 }, 0),
        some (some { fmt := .wide48, r := 33825, g := 33288, b := 33825 }, 0),
        some (some { fmt := .narrow8, r := 4, g := 4, b := 2 }, 0),
        some (some { fmt := .mid16, r := 16, g := 32, b := 16 }, 0),
        some (some { fmt := .standard24, r := 128, g := 128, b := 128 }, 0),
        some (some { fmt := .wide48, r := 32896, g := 32896, b := 32896 }, 0),
        some (some { fmt := .narrow8, r := 4, g := 4, b := 2 }, 0),
        some (some { fmt := .mid16, r := 16, g := 32, b := 16 }, 0),
        some (some { fmt := .standard24, r := 128, g := 128, b := 128 }, 0),
        some (some { fmt := .wide48, r := 32768, g := 32768, b := 32768 }, 0)] := by decide +kernel

/-- L2.5: red one above its width faults CHAN_RANGE, for the 12 conversions that can. -/
theorem test_conv_range :
    [pixAfter 0x0000 8 0 0,
      pixAfter 0x0100 8 0 0,
      pixAfter 0x0200 8 0 0,
      pixAfter 0x0300 8 0 0,
      pixAfter 0x0400 32 0 0,
      pixAfter 0x0500 32 0 0,
      pixAfter 0x0600 32 0 0,
      pixAfter 0x0700 32 0 0,
      pixAfter 0x0800 256 0 0,
      pixAfter 0x0900 256 0 0,
      pixAfter 0x0A00 256 0 0,
      pixAfter 0x0B00 256 0 0] =
      List.replicate 12 (some (none, 2)) := by decide +kernel

/-- L2.5, sample pixels with unequal channels: no lane reads another. -/
theorem test_conv_lanes :
    pixAfter 0x0100 5 2 1 = some (some { fmt := .mid16, r := 22, g := 18, b := 10 }, 0) ∧
    pixAfter 0x0600 17 40 9 = some (some { fmt := .standard24, r := 140, g := 162, b := 74 }, 0) ∧
    pixAfter 0x0800 200 100 50 = some (some { fmt := .narrow8, r := 6, g := 3, b := 0 }, 0) ∧
    pixAfter 0x0D00 40000 1234 65535 = some (some { fmt := .mid16, r := 19, g := 1, b := 31 }, 0) := by decide +kernel

/-- L2.6: the ends R141 and R142 fix, and the range. -/
theorem test_gamma :
    [doutAfter 0x5000 0, doutAfter 0x5000 256, doutAfter 0x6000 0, doutAfter 0x6000 255, doutAfter 0x6000 256,
      doutAfter 0x6000 65535] =
      [some (some 0, 0), some (none, 2), some (some 0, 0), some (some 65535, 0), some (none, 2), some (none, 2)] := by decide +kernel

/-- L2.7. -/
theorem test_cc_standard24 :
    pixAfter 0x7A00 255 0 255 = some (some { fmt := .standard24, r := 255, g := 0, b := 255 }, 0) ∧
    pixAfter 0x7A00 255 0 256 = some (none, 2) ∧
    pixAfter 0x7B00 0 255 0 = some (some { fmt := .wide48, r := 0, g := 65535, b := 0 }, 0) ∧
    pixAfter 0x7B00 0 300 0 = some (none, 2) := by decide +kernel

/-- L2.7: CC_DOMAIN, before CHAN_RANGE. -/
theorem test_cc_domain :
    [pixAfter 0x7200 7 7 3, pixAfter 0x7300 0 0 0, pixAfter 0x7600 31 63 31, pixAfter 0x7700 1 1 1, pixAfter 0x7E00 10 10 10,
      pixAfter 0x7F00 300 0 0] = List.replicate 6 (some (none, 3)) := by decide +kernel

/-- 43_background.md R168 through 95_test_vectors.md L2.8: `bgval(255, B)`. -/
theorem test_bgval :
    [1#8, 2#8, 64#8, 127#8, 128#8, 200#8, 254#8, 255#8].map (bgval 65535) =
      [255#16, 511#16, 16383#16, 32511#16, 32767#16, 51199#16, 65023#16, 65279#16] := by decide +kernel

/-- The state after a step, or the state before it if it stopped. -/
def after (s : State) : State :=
  match step s with
  | .next t => t
  | .fault _ => s
  | .refused _ => s

/-- A command word with `din` on port 0. -/
def cmd (w d : Word) : Event := .command (issued w { r := 0, g := 0, b := 0 } d)

/-- L2.8: BGBUILD writes no bus, and its two faults set none to ⊥ (log 12). -/
theorem test_bgbuild :
    seen (step (quiet [cmd 0x8000 128])) = some (heldPort.pix, some 9, 0) ∧
    seen (step (quiet [cmd 0x8000 256])) = some (heldPort.pix, some 9, 7) ∧
    (after (quiet [cmd 0x8000 128])).bgBusy = true ∧ (after (quiet [cmd 0x8000 128])).bgBright = some 128 ∧
    (after (quiet [cmd 0x8000 256])).bgBusy = false := by decide +kernel

/-- L2.8: BG_BUSY before BRIGHT_RANGE. -/
theorem test_bgbuild_busy :
    seen (step { quiet [cmd 0x8000 300] with bgBusy := true, bgBright := some 1, bgPending := [7] }) =
      some (heldPort.pix, some 9, 5) := by decide +kernel

/-- A build with brightness 255 that has entries 0 and 255 left. -/
def late : State :=
  { quiet [.buildAgent 3, cmd 0x9000 255] with bgBusy := true, bgBright := some 255, bgPending := [0, 255] }

/-- L2.8: the agent writes entry 255 alone (its third pick of two is the second), then BGREAD reads it. -/
theorem test_agent_step :
    (after late).bgPending = [0] ∧ (after late).bgBusy = true ∧ (after late).bglut = [(255, 65279)] ∧
    seen (step (after late)) = some (heldPort.pix, some 65279, 0) := by decide +kernel

/-- L2.8: an entry never written, and an index outside the table. -/
theorem test_bgread_faults :
    [doutAfter 0x9000 0, doutAfter 0x9000 256] = [some (none, 6), some (none, 2)] := by decide +kernel

/-- The agent scheduled while no build runs writes nothing (log 6). -/
theorem test_agent_idle :
    (after (quiet [.buildAgent 0])).bglut = [] ∧ (after (quiet [.buildAgent 0])).bgBusy = false ∧
    seen (step (quiet [.buildAgent 0])) = some (heldPort.pix, some 9, 0) := by decide +kernel

/-- That build with BG_ATOMIC_SWAP true. -/
def swapping : State := { late with cfg := { late.cfg with bgAtomicSwap := true } }

/-- L2.8: with BG_ATOMIC_SWAP true one agent step ends the build and writes every entry, at brightness 255 65279 at the top. -/
theorem test_atomic_swap :
    agentStep 3 swapping = .ok (swapTable 255 swapping) ∧ (swapTable 255 swapping).bgBusy = false ∧
    (swapTable 255 swapping).bgPending = [] ∧ (swapTable 255 swapping).bglut.read 0 = some 0 ∧
    (swapTable 255 swapping).bglut.read 255 = some 65279 := by
  have hr := read_writeAll swapping 255 allIndices []
  refine ⟨rfl, rfl, rfl, (hr 0).trans ?_, (hr 255).trans ?_⟩
  · rw [dif_pos (by decide), if_pos (mem_allIndices _)]; decide +kernel
  · rw [dif_pos (by decide), if_pos (mem_allIndices _)]; decide +kernel

/-- L2.9. -/
theorem test_stat :
    doutAfter 0xA000 0 = some (some 0, 0) ∧
    seen (step { quiet [cmd 0xA000 0] with fault := true, cause := 5, bgBusy := true, bgPending := [1] }) =
      some (heldPort.pix, some 0x0053, 5) ∧
    seen (step { quiet [cmd 0xA000 0] with fault := true, cause := 6 }) = some (heldPort.pix, some 0x0062, 6) := by decide +kernel

/-- L2.10: a reserved opcode sets both buses to ⊥; a later fault keeps the first cause (60_exceptions.md R191). -/
theorem test_illegal :
    seen (step (quiet [cmd 0xB000 0])) = some (none, none, 1) ∧
    seen (step { quiet [cmd 0xA001 0] with fault := true, cause := 3 }) = some (none, none, 3) := by decide +kernel

/-- A command drives the buses of its own port alone (20_memory.md R47). -/
theorem test_port_one :
    (after (quiet [.command { issued 0xA000 { r := 0, g := 0, b := 0 } 0 with port := 1 }])).ports =
      [heldPort, { heldPort with dout := some 0 }] := by decide +kernel

/-- Reset in the middle of a build (70_reset_and_hazards.md R220). -/
theorem test_reset_event :
    let s := after { late with script := [.reset], fault := true, cause := 2, bglut := [(1, 1)] }
    s.bgBusy = false ∧ s.bgBright = none ∧ s.bgPending = [] ∧ s.bglut = [] ∧ s.fault = false ∧ s.cause = 0 ∧
    s.ports = [PortOut.empty, PortOut.empty] := by decide +kernel

/-- A packed mid16 pixel, `{r, g, b}` (30_encoding.md R71), and its bytes in both orders (R72). -/
theorem test_pack :
    pack { fmt := .mid16, r := 31, g := 0, b := 1 } = 0xF801 ∧ pack { fmt := .narrow8, r := 0, g := 7, b := 3 } = 0x1F ∧
    packBytes .little { fmt := .mid16, r := 31, g := 0, b := 1 } = [0x01, 0xF8] ∧
    packBytes .big { fmt := .mid16, r := 31, g := 0, b := 1 } = [0xF8, 0x01] := by decide +kernel

/-- The first step after reset runs the word placed there. -/
theorem test_withFetchWord :
    seen (step (State.reset.withFetchWord 16 0x1C00)) =
      some (some { fmt := .wide48, r := 0, g := 0, b := 0 }, none, 0) ∧
    seen (step (State.reset.withFetchWord 16 0xF000)) = some (none, none, 1) := by decide +kernel

/-! Witnesses: for every statement with hypotheses, states and operands that meet them, at the ends of their ranges. -/

theorem gamma8Test_ok : Gamma8Ok gamma8Test := by
  have hv : ∀ i : Fin 256, gamma8Test[i].toNat = i.val * 252 / 255 := by
    intro i
    have := i.isLt
    simp [gamma8Test]
    omega
  refine ⟨by rw [hv]; rfl, fun i => by rw [hv]; have := i.isLt; omega, fun i j h => ?_⟩
  rw [hv, hv]
  have : i.val ≤ j.val := h
  omega

theorem gamma16Test_ok : Gamma16Ok gamma16Test := by
  have hv : ∀ i : Fin 256, gamma16Test[i].toNat = 257 * i.val := by
    intro i
    have := i.isLt
    simp [gamma16Test]
    omega
  refine ⟨by rw [hv]; rfl, by rw [hv]; rfl, fun i j h => ?_⟩
  rw [hv, hv]
  have : i.val ≤ j.val := h
  omega

theorem heldPort_fits : ∀ o ∈ [heldPort, heldPort], ∀ p, o.pix = some p → p.fits = true := by
  intro o ho p hp
  have : o = heldPort := by simpa using ho
  subst this
  cases hp
  decide

theorem quiet_inv (es : List Event) : (quiet es).Inv where
  scale := rfl
  gamma8 := gamma8Test_ok
  gamma16 := gamma16Test_ok
  bglut := rfl
  busy := by simp [quiet]
  pending := List.Pairwise.nil
  bright := by simp [quiet]
  cause := by simp [quiet]
  causeLegal := Nat.zero_le 7
  pixels := heldPort_fits
  table := by simp [quiet]
  port := Nat.zero_lt_two

/-- A build with brightness 255 over a table an earlier build with the same brightness filled, `pending` still to be written. -/
def building (pending : List (Fin 256)) (es : List Event) : State :=
  { quiet es with
    bgBusy := !pending.isEmpty, bgBright := some 255, bgPending := pending
    bglut := writeAll (quiet []) 255 allIndices [] }

theorem building_read (pending : List (Fin 256)) (es : List Event) (i : Fin 256) :
    (building pending es).bglut.read i.val = some (bgEntry (building pending es) i 255) := by
  refine (read_writeAll (quiet []) 255 allIndices [] i.val).trans ?_
  rw [dif_pos i.isLt, if_pos (mem_allIndices _)]
  rfl

theorem building_inv (pending : List (Fin 256)) (es : List Event) (h : pending.Pairwise (· < ·)) : (building pending es).Inv where
  scale := rfl
  gamma8 := gamma8Test_ok
  gamma16 := gamma16Test_ok
  bglut := writeAll_wf allIndices rfl
  busy := by cases pending <;> simp [building]
  pending := h
  bright := by simp [building]
  cause := by simp [building, quiet]
  causeLegal := Nat.zero_le 7
  pixels := heldPort_fits
  table := by
    intro bright hb i _
    cases hb
    exact building_read pending es i
  port := Nat.zero_lt_two

theorem witness_StepKeepsInvariant : ∀ e ∈ [cmd 0xB000 0, cmd 0x8000 10, .buildAgent 4, .reset],
    (building [0, 255] [e]).Inv ∧ ∃ t, step (building [0, 255] [e]) = .next t := by
  intro e he
  refine ⟨building_inv _ _ (by decide), ?_⟩
  simp only [List.mem_cons, List.not_mem_nil, or_false] at he
  rcases he with rfl | rfl | rfl | rfl <;> exact ⟨_, rfl⟩

theorem witness_SpecInvariantsKept : SpecInvariants (building [0, 255] [.buildAgent 0]) ∧
    ∃ t, step (building [0, 255] [.buildAgent 0]) = .next t :=
  ⟨⟨by simp [building], by simp [building], by simp [building, quiet], fun _ v _ => v.isLt⟩, _, rfl⟩

/-- Every kind of event, with the last port of the two. -/
theorem witness_EveryScriptRuns :
    let s := building [0, 255] [.command { issued 0x9000 { r := 0, g := 0, b := 0 } 0 with port := 1 }, .buildAgent 9, .reset]
    s.Inv ∧ ∀ e ∈ s.script, e.onPorts s := by
  refine ⟨building_inv _ _ (by decide), ?_⟩
  intro e he
  simp only [building, quiet, List.mem_cons, List.not_mem_nil, or_false] at he
  rcases he with rfl | rfl | rfl <;> simp [Event.onPorts, issued, building, quiet]

/-- The first and the last legal word. -/
theorem witness_EncodeDecodeAgree : decode 0x0000 = .ok .convNarrow8Narrow8 ∧ decode 0xA000 = .ok .stat := by decide

/-- A word for each condition of R67, and that step meets the other hypotheses on the last port. -/
theorem witness_IllegalWordsFault :
    (∀ w ∈ [0xB000#16, 0x0001#16, 0x7201#16, 0x1200#16, 0x2001#16, 0x3020#16, 0x4081#16, 0x5800#16, 0x6001#16, 0x8001#16,
      0x9001#16, 0xA001#16, 0x3C00#16, 0x31C0#16, 0x4180#16, 0x3040#16, 0x30C0#16, 0x34C0#16, 0x4000#16, 0x7800#16, 0x7900#16],
      IllegalWord w) ∧
    ∃ q, (quiet [.command q]).script = [.command q] ∧ q.cmd = 0xB000 ∧ q.port + 1 = (quiet [.command q]).ports.length := by
  refine ⟨?_, { issued 0xB000 { r := 0, g := 0, b := 0 } 0 with port := 1 }, rfl, rfl, rfl⟩
  intro w hw
  simp only [List.mem_cons, List.not_mem_nil, or_false] at hw
  unfold IllegalWord IllegalNumber
  rcases hw with rfl | rfl | rfl | rfl | rfl | rfl | rfl | rfl | rfl | rfl | rfl | rfl | rfl | rfl | rfl | rfl | rfl | rfl | rfl | rfl | rfl <;>
    decide

theorem witness_StepRunsDecodedCommand :
    ∃ q, (quiet [.command q]).script = [.command q] ∧ q.port + 1 = (quiet [.command q]).ports.length ∧
      decode q.cmd = .ok .stat :=
  ⟨{ issued 0xA000 { r := 0, g := 0, b := 0 } 0 with port := 1 }, rfl, rfl, rfl⟩

theorem witness_WithFetchWordRunsWord :
    (quiet []).issue.port < (quiet []).ports.length ∧ decode 0x8000 = .ok .bgbuild := by decide

theorem witness_OtherEventsStep :
    (quiet []).script = [] ∧ (∃ t, agentStep 0 (withScript [] (building [0, 255] [.buildAgent 0])) = .ok t) ∧
    (quiet [.reset]).script = [.reset] ∧
    ∃ q, (quiet [.command q]).script = [.command q] ∧ q.port = (quiet [.command q]).ports.length :=
  ⟨rfl, ⟨_, rfl⟩, rfl, { issued 0xA000 { r := 0, g := 0, b := 0 } 0 with port := 2 }, rfl, rfl⟩

/-- A command that ends well and one that faults. -/
theorem witness_CausesAreTheirCommands :
    (∃ t, exec .stat (quiet []) = .next t) ∧ exec .ccMid16Wide48 (quiet []) = .next (raiseFault .ccDomain .pix (quiet [])) :=
  ⟨⟨_, rfl⟩, rfl⟩

theorem witness_OnlyResetClears :
    (quiet [.reset]).script = [.reset] ∧
    ∃ t, step { building [0, 255] [.buildAgent 0] with fault := true, cause := 2 } = .next t ∧
      (building [0, 255] [.buildAgent 0]).script.head? ≠ some .reset ∧
      (building [0, 255] [.buildAgent 0]).bglut.read 255 ≠ none := by
  refine ⟨rfl, _, rfl, by simp [building, quiet], ?_⟩
  have h := building_read [0, 255] [.buildAgent 0] 255
  simp only [show ((255 : Fin 256) : Nat) = 255 from rfl] at h
  simp [h]

/-- Both ends and a middle value are inside; just below 0 and just above 1 are not. -/
theorem witness_MknormTakesProducts :
    NormIn.inside { r := 0, g := 1, b := 1 / 2 } ∧ ¬ NormIn.inside { r := -1 / 1000, g := 0, b := 0 } ∧
    ¬ NormIn.inside { r := 0, g := 0, b := 1001 / 1000 } := by
  norm_num [NormIn.inside]

theorem witness_NormProductLimits : ((0 : Rat) ≤ 0 ∧ (0 : Rat) ≤ 1) ∧ (0 : Rat) ≤ 1 ∧ (1 : Rat) ≤ 1 := by norm_num

/-- One pair for each clause, at the greatest value of the source width. -/
theorem witness_RescaleFunction :
    3 < 2 ^ Width.w2.bits ∧ 65535 < 2 ^ Width.w16.bits ∧ Width.w8.bits < Width.w16.bits ∧ 255 < 2 ^ Width.w8.bits ∧
    scaleTable? .w6 .w16 = some .t6to16 ∧ 63 < 2 ^ Width.w6.bits ∧
    (Width.w5, Width.w6) ∈ [(Width.w2, Width.w3), (Width.w2, Width.w6), (Width.w5, Width.w6)] ∧
    rescale .w6 .w16 63 (quiet []) = .ok 65535 ∧ Channels.fits .mid16 { r := 31, g := 63, b := 31 } = true := by decide +kernel

theorem witness_RescaleCommandRuns :
    Instr.rescale5To8.op = .rescale .w5 .w8 ∧ (31#16).toNat + 1 = 2 ^ Width.w5.bits ∧ 2 ^ Width.w5.bits ≤ (32#16).toNat := by decide

theorem witness_SlutReadsTable :
    Instr.slut6To16.op = .slut .w6 .w16 ∧ (63#16).toNat + 1 = 2 ^ Width.w6.bits ∧ 2 ^ Width.w6.bits ≤ (64#16).toNat := by decide

theorem witness_ScaleTablesFollowFormula :
    3 + 1 = 2 ^ ScaleTable.t2to5.src.bits ∧ 63 + 1 = 2 ^ ScaleTable.t6to16.src.bits := by decide

theorem witness_RescaleMonotone :
    (quiet []).scale = scaleContents ∧ 62 ≤ 63 ∧ 63 < 2 ^ Width.w6.bits ∧ rescale .w6 .w8 62 (quiet []) = .ok 251 ∧
    rescale .w6 .w8 63 (quiet []) = .ok 255 ∧ Channels.fits .narrow8 { r := 7, g := 7, b := 3 } = true ∧
    (∃ p, convLanes .narrow8 .wide48 { r := 6, g := 7, b := 0 } (quiet []) = .ok p) ∧
    ∃ p, convLanes .narrow8 .wide48 { r := 7, g := 7, b := 3 } (quiet []) = .ok p := by
  refine ⟨rfl, by decide, by decide, by decide +kernel, by decide +kernel, by decide, ?_, ?_⟩
  · obtain ⟨p, h, -⟩ := convLanes_ok (g := .wide48) (quiet []) (show Channels.fits .narrow8 { r := 6, g := 7, b := 0 } = true by decide)
    exact ⟨p, h⟩
  · obtain ⟨p, h, -⟩ := convLanes_ok (g := .wide48) (quiet []) (show Channels.fits .narrow8 { r := 7, g := 7, b := 3 } = true by decide)
    exact ⟨p, h⟩

theorem witness_ReplicationIsTableRule : 0 < 256 ∧ 255 < 256 := by decide

/-- The ends of the four formats' ranges, and one past each channel, for the CONV statements. -/
theorem witness_Conv :
    Channels.below 8 8 4 { r := 7, g := 7, b := 3 } ∧ ¬ Channels.below 8 8 4 { r := 7, g := 7, b := 4 } ∧
    Channels.below 32 64 32 { r := 31, g := 63, b := 31 } ∧ ¬ Channels.below 32 64 32 { r := 31, g := 64, b := 31 } ∧
    Channels.below 256 256 256 { r := 255, g := 255, b := 255 } ∧ ¬ Channels.below 256 256 256 { r := 256, g := 0, b := 0 } := by
  simp [Channels.below]

theorem witness_WidenNarrowRoundTrip :
    Format.narrow8.code < Format.wide48.code ∧ Instr.convNarrow8Wide48.op = .conv .narrow8 .wide48 ∧
    Instr.convWide48Narrow8.op = .conv .wide48 .narrow8 ∧ (quiet []).scale = scaleContents ∧
    Channels.fits .narrow8 { r := 7, g := 7, b := 3 } = true := ⟨by decide, rfl, rfl, rfl, by decide⟩

theorem witness_BoundedLossScenario : (quiet []).scale = scaleContents := rfl

theorem witness_GammaTableLimits : Gamma8Ok gamma8Test ∧ Gamma16Ok gamma16Test := ⟨gamma8Test_ok, gamma16Test_ok⟩

/-- The state with a value on `din`. -/
def withDin (d : Word) (s : State) : State := withIssue { s.issue with din := d } s

theorem witness_GammaCommandsRead :
    (withDin 0 (quiet [])).issue.din.toNat < 256 ∧ (withDin 255 (quiet [])).issue.din.toNat < 256 ∧
    255 < (withDin 256 (quiet [])).issue.din.toNat ∧ Gamma8Ok (withDin 255 (quiet [])).gamma8 ∧
    Gamma16Ok (withDin 255 (quiet [])).gamma16 ∧ (withDin 0 (quiet [])).issue.din = 0 ∧
    (withDin 255 (quiet [])).issue.din = 255 :=
  ⟨by decide, by decide, by decide, gamma8Test_ok, gamma16Test_ok, rfl, rfl⟩

theorem witness_ColorCorrectionLooksUp :
    Channels.below 256 256 256 { r := 255, g := 0, b := 255 } ∧ ¬ Channels.below 256 256 256 { r := 255, g := 0, b := 256 } := by
  simp [Channels.below]

/-- A table within its limits, neighbouring channels at the top of the range, and unequal orders in the other lanes. -/
theorem witness_ColorCorrectionProperties :
    Gamma16Ok (quiet []).gamma16 ∧ Channels.fits .standard24 { r := 254, g := 255, b := 0 } = true ∧
    Channels.fits .standard24 { r := 255, g := 0, b := 255 } = true ∧ (254#16).toNat ≤ (255#16).toNat :=
  ⟨gamma16Test_ok, by decide, by decide, by decide⟩

theorem witness_DimmingFormula :
    Gamma16Ok (quiet []).gamma16 ∧ (0 : Fin 256) ≤ 255 ∧ (254#8).toNat ≤ (255#8).toNat := ⟨gamma16Test_ok, by decide, by decide⟩

theorem witness_BgbuildStartsBuild :
    ((withDin 255 (quiet [])).bgBusy = false ∧ (withDin 255 (quiet [])).issue.din.toNat ≤ 255) ∧
    (building [0, 255] []).bgBusy = true ∧
    (withDin 256 (quiet [])).bgBusy = false ∧ 255 < (withDin 256 (quiet [])).issue.din.toNat := by
  refine ⟨⟨rfl, by decide⟩, rfl, rfl, by decide⟩

theorem witness_AgentWritesOneEntry :
    (building [0, 255] []).bgBusy = true ∧ (building [0, 255] []).bgBright = some 255 ∧
    (building [0, 255] []).cfg.bgAtomicSwap = false ∧ (building [0, 255] []).bgPending ≠ [] ∧
    (255 : Fin 256) ∈ (building [0, 255] []).bgPending ∧ (quiet []).bgBusy = false :=
  ⟨rfl, rfl, rfl, List.cons_ne_nil _ _, List.mem_cons_of_mem _ (List.mem_singleton.2 rfl), rfl⟩

theorem witness_AtomicSwapWritesAll :
    swapping.bgBusy = true ∧ swapping.bgBright = some 255 ∧ swapping.cfg.bgAtomicSwap = true := ⟨rfl, rfl, rfl⟩

theorem witness_BuildTakesPendingSteps :
    let s := building [0, 255] ([1, 0].map Event.buildAgent ++ [.reset])
    s.Inv ∧ s.bgBusy = true ∧ s.bgBright = some 255 ∧ s.cfg.bgAtomicSwap = false ∧ [1, 0].length = s.bgPending.length ∧
    s.script = [1, 0].map Event.buildAgent ++ [.reset] :=
  ⟨building_inv _ _ (by decide), rfl, rfl, rfl, rfl, rfl⟩

/-- Just enough agent events, a command between them. -/
theorem witness_BuildEndsUnderFairness :
    let s := building [0, 255] [.buildAgent 1, cmd 0xA000 0, .buildAgent 0]
    s.Inv ∧ (∀ e ∈ s.script, e.onPorts s) ∧ (∀ e ∈ s.script, e ≠ .reset) ∧
    s.bgPending.length = (s.script.filter Event.isAgent).length := by
  refine ⟨building_inv _ _ (by decide), ?_, ?_, rfl⟩ <;> intro e he <;>
    simp only [building, quiet, List.mem_cons, List.not_mem_nil, or_false] at he <;> rcases he with rfl | rfl | rfl <;>
    simp [Event.onPorts, cmd, issued, building, quiet]

theorem witness_AtomicSwapRefinesEntrywise :
    let s := building allIndices []
    s.Inv ∧ s.bgBusy = true ∧ s.cfg.bgAtomicSwap = false ∧ s.bgPending = allIndices ∧ (List.replicate 256 0).length = 256 := by
  refine ⟨building_inv _ _ allIndices_rising, ?_, rfl, rfl, List.length_replicate⟩
  show (!allIndices.isEmpty) = true
  simp [allIndices_ne_nil]

/-- A written entry, an unwritten one, the first index outside. -/
theorem witness_BgreadReadsEntry :
    ((withDin 255 (building [] [])).issue.din.toNat ≤ 255 ∧
      ∃ v, (withDin 255 (building [] [])).bglut.read 255 = some v) ∧
    ((withDin 0 (quiet [])).issue.din.toNat ≤ 255 ∧ (withDin 0 (quiet [])).bglut.read 0 = none) ∧
    255 < (withDin 256 (quiet [])).issue.din.toNat :=
  ⟨⟨by decide, _, building_read [] [] 255⟩, ⟨by decide, rfl⟩, by decide⟩

theorem witness_BgreadAfterBuild :
    (withDin 255 (building [] [])).bgBusy = false ∧ (withDin 255 (building [] [])).bgBright = some 255 ∧
    (withDin 255 (building [] [])).issue.din.toNat = (255 : Fin 256).val ∧ (withDin 255 (building [] [])).Inv := by
  have h := building_inv [] [] List.Pairwise.nil
  exact ⟨rfl, rfl, rfl, h.scale, h.gamma8, h.gamma16, h.bglut, h.busy, h.pending, h.bright, h.cause, h.causeLegal, h.pixels, h.table,
    h.port⟩

theorem witness_PendingEntryKeepsOldValue :
    ∃ t, (building [0, 255] [.buildAgent 0]).Inv ∧ step (building [0, 255] [.buildAgent 0]) = .next t ∧
      (building [0, 255] [.buildAgent 0]).script.head? ≠ some .reset ∧ (255 : Fin 256) ∈ t.bgPending :=
  ⟨_, building_inv _ _ (by decide), rfl, by simp [building, quiet], by decide⟩

theorem witness_StatusZeroMeansComplete :
    ∃ t o w, (building [] []).Inv ∧ exec .stat (building [] []) = .next t ∧
      t.ports[(building [] []).issue.port]? = some o ∧ o.dout = some w ∧ w.getLsbD 0 = false ∧
      (building [] []).bgBright = some 255 :=
  ⟨_, _, _, building_inv _ _ List.Pairwise.nil, rfl, rfl, rfl, by decide, rfl⟩

/-- A `dout` command, a `pix_out` command, and a port that is not the issuing one. -/
theorem witness_CommandFrames :
    (∃ t, exec .stat (quiet []) = .next t) ∧ (∃ t, exec .mkrawMid16 (quiet []) = .next t) ∧ Instr.stat ≠ .bgbuild ∧
    targetOf Instr.stat.op ≠ .pix ∧ targetOf Instr.mkrawMid16.op ≠ .dout ∧ 1 ≠ (quiet []).issue.port :=
  ⟨⟨_, rfl⟩, ⟨_, rfl⟩, by decide, by decide, by decide, by decide⟩

theorem witness_OnlyAgentWritesTable :
    ∃ t, step (quiet [cmd 0x8000 1]) = .next t ∧ (∀ k, (quiet [cmd 0x8000 1]).script.head? ≠ some (.buildAgent k)) ∧
      (quiet [cmd 0x8000 1]).script.head? ≠ some .reset :=
  ⟨_, rfl, by simp [quiet, cmd], by simp [quiet, cmd]⟩

theorem witness_RomsNeverChange : ∃ t, step (building [0, 255] [.buildAgent 0]) = .next t := ⟨_, rfl⟩

/-- A command that reads `din` alone, with everything else changed. -/
theorem witness_UnreadInputsIgnored :
    let q : Issue := { issued 0xFFFF { r := 1, g := 2, b := 3 } 0 with normIn := { r := 1, g := 1, b := 1 } }
    q.port = (quiet []).issue.port ∧ readsPix Instr.gamma8.op = false ∧ readsNorm Instr.gamma8.op = false ∧
    readsDin Instr.gamma8.op = true ∧ q.din = (quiet []).issue.din := ⟨rfl, rfl, rfl, rfl, rfl⟩

/-- The greatest pixel of each format, and the greatest word of the narrowest and the widest. -/
theorem witness_PackUnpackInverse :
    0xFF + 1 = 2 ^ packedBits .narrow8 ∧ 0xFFFFFFFFFFFF + 1 = 2 ^ packedBits .wide48 ∧
    [({ fmt := .narrow8, r := 7, g := 7, b := 3 } : Pixel), { fmt := .mid16, r := 31, g := 63, b := 31 },
      { fmt := .standard24, r := 255, g := 255, b := 255 }, { fmt := .wide48, r := 65535, g := 65535, b := 65535 }].map Pixel.fits =
      [true, true, true, true] := by decide

/-- The greatest brightness, right after reset's build state. -/
theorem witness_BuildAfterBgbuildTakes256Steps :
    let s := withDin 255 (quiet [])
    s.Inv ∧ s.bgBusy = false ∧ s.issue.din.toNat = 255 ∧ s.cfg.bgAtomicSwap = false ∧ (List.replicate 256 0).length = 256 := by
  have h := quiet_inv []
  exact ⟨⟨h.scale, h.gamma8, h.gamma16, h.bglut, h.busy, h.pending, h.bright, h.cause, h.causeLegal, h.pixels, h.table, h.port⟩,
    rfl, rfl, rfl, List.length_replicate⟩

end Sys2Proof.Tests
end

section
/-! SUPPORT. The gamma tables made from free numbers (42_gamma.md R141, R142; log 7): what each entry is, and that a table within the
limits comes out of its own entries. -/

namespace Sys2Proof.Machine

theorem gamma8Table_toNat (free : Nat → Nat) (i : Fin 256) :
    (gamma8Table free)[i].toNat = runningMax (fun j => min 252 (free j)) i.val := by
  have hle : runningMax (fun j => min 252 (free j)) i.val ≤ 252 := runningMax_le (fun _ => min_le_left _ _) _
  simp only [gamma8Table, Fin.getElem_fin, Vector.getElem_ofFn, BitVec.toNat_ofNat]
  omega

theorem gamma16Table_last (free : Nat → Nat) : (gamma16Table free)[(255 : Fin 256)] = 65535#16 := by
  simp [gamma16Table]

theorem gamma16Table_toNat (free : Nat → Nat) {i : Fin 256} (hi : i.val ≠ 255) :
    (gamma16Table free)[i].toNat = runningMax (fun j => min 65535 (free j)) i.val := by
  have hle : runningMax (fun j => min 65535 (free j)) i.val ≤ 65535 := runningMax_le (fun _ => min_le_left _ _) _
  simp only [gamma16Table, Fin.getElem_fin, Vector.getElem_ofFn, if_neg hi, BitVec.toNat_ofNat]
  omega

theorem gamma8Table_ok (free : Nat → Nat) : Gamma8Ok (gamma8Table free) := by
  refine ⟨?_, fun i => ?_, fun i j hij => ?_⟩
  · rw [gamma8Table_toNat]; rfl
  · rw [gamma8Table_toNat]; exact runningMax_le (fun _ => min_le_left _ _) _
  · rw [gamma8Table_toNat, gamma8Table_toNat]; exact runningMax_mono _ hij

/-- The last entry is the greatest 16-bit value, so setting it to 65535 keeps the order. -/
theorem gamma16Table_ok (free : Nat → Nat) : Gamma16Ok (gamma16Table free) := by
  have hlast : (gamma16Table free)[(255 : Fin 256)].toNat = 65535 := by rw [gamma16Table_last]; rfl
  refine ⟨?_, hlast, fun i j hij => ?_⟩
  · rw [gamma16Table_toNat free (by decide)]; rfl
  · by_cases hj : j = 255
    · rw [hj, hlast]; exact Nat.le_of_lt_succ (BitVec.isLt _)
    · have hij' : i.val ≤ j.val := hij
      rw [gamma16Table_toNat free (by omega), gamma16Table_toNat free (by omega)]
      exact runningMax_mono _ hij'

/-- The entries of a table as numbers, 0 outside it: the free numbers the table itself comes out of. -/
def entryNumber {w : Nat} (g : Vector (BitVec w) 256) (j : Nat) : Nat := (g[j]?.getD 0#w).toNat

theorem entryNumber_of_lt {w : Nat} (g : Vector (BitVec w) 256) {j : Nat} (h : j < 256) : entryNumber g j = g[j].toNat := by
  simp [entryNumber, h]

/-- Entries that rise from 0 and stay within `c` are their own running maximum, capped at `c`. -/
theorem runningMax_entryNumber {w c : Nat} {g : Vector (BitVec w) 256} (h0 : g[(0 : Fin 256)].toNat = 0)
    (hc : ∀ i : Fin 256, g[i].toNat ≤ c) (hrise : ∀ i j : Fin 256, i ≤ j → g[i].toNat ≤ g[j].toNat) (i : Fin 256) :
    runningMax (fun j => min c (entryNumber g j)) i.val = g[i].toNat := by
  have hval : ∀ j : Fin 256, min c (entryNumber g j.val) = g[j].toNat := fun j => by
    rw [entryNumber_of_lt g j.isLt]; exact min_eq_right (hc j)
  rw [runningMax_of_rising (n := 255) ((hval 0).trans h0) (fun j hj => ?_) i.val (by omega)]
  · exact hval i
  · rw [hval ⟨j, by omega⟩, hval ⟨j + 1, by omega⟩]
    exact hrise _ _ (Nat.le_succ j)

theorem gamma8Table_of_admissible {g : Vector (BitVec 8) 256} (h : Gamma8Ok g) : gamma8Table (entryNumber g) = g := by
  obtain ⟨h0, hc, hrise⟩ := h
  refine Vector.ext fun i hi => BitVec.eq_of_toNat_eq ?_
  exact (gamma8Table_toNat _ ⟨i, hi⟩).trans (runningMax_entryNumber h0 hc hrise ⟨i, hi⟩)

theorem gamma16Table_of_admissible {g : Vector (BitVec 16) 256} (h : Gamma16Ok g) : gamma16Table (entryNumber g) = g := by
  obtain ⟨h0, hlast, hrise⟩ := h
  have hc : ∀ i : Fin 256, g[i].toNat ≤ 65535 := fun i => Nat.le_of_lt_succ (BitVec.isLt _)
  refine Vector.ext fun i hi => BitVec.eq_of_toNat_eq ?_
  by_cases h255 : i = 255
  · subst h255
    exact (congrArg BitVec.toNat (gamma16Table_last _)).trans hlast.symm
  · exact (gamma16Table_toNat _ (i := ⟨i, hi⟩) h255).trans (runningMax_entryNumber h0 hc hrise ⟨i, hi⟩)

/-- Settles O34: R141 and R142 hold whatever the free numbers are, and a table within them is the one its own entries give. -/
theorem gammaTableLimits : Obligations.GammaTableLimits :=
  ⟨fun free => ⟨gamma8Table_ok free, gamma16Table_ok free⟩,
    fun _ h => ⟨_, gamma8Table_of_admissible h⟩,
    fun _ h => ⟨_, gamma16Table_of_admissible h⟩,
    gamma8Table_ok _, gamma16Table_ok _⟩

end Sys2Proof.Machine
end

section
/-! SUPPORT. What a step makes of a command event (20_memory.md R47; log 1, log 3). -/

namespace Sys2Proof.Machine

/-- A command on a port of the machine is fetched with its arguments latched and its event taken off the script. -/
theorem fetch_command {s : State} {q : Issue} {rest : List Event} (hs : s.script = .command q :: rest)
    (hq : q.port < s.ports.length) : fetch s = .command q.cmd (withIssue q (withScript rest s)) := by
  have hport : q.port < (withScript rest s).ports.length := by simpa using hq
  simp only [fetch, hs, applyEvent, acceptCommand, if_pos hport]

/-- Settles O12: the fetched word is the one the step decodes. -/
theorem stepRunsDecodedCommand : Obligations.StepRunsDecodedCommand := by
  intro s q rest i hs hq hd
  simp only [step, fetch_command hs hq, hd]

end Sys2Proof.Machine
end

section
/-! SUPPORT. The meaning of a command by its operation: the 81 arms of `exec` are 11 families (30_encoding.md R64, R65), and what a family
drives or reads is said once for all of its commands. -/

namespace Sys2Proof.Machine

/-- SLUT of a pair of widths; ILLEGAL_CMD on a pair without a scale table, as `rescale` answers one (log 22). -/
def slutCommand (a b : Width) (s : State) : Result :=
  match scaleTable? a b with
  | some t => scaleRead t s
  | none => doutResult (.error .illegalCmd) s

/-- The command of an operation. An operation without an instruction, which no word names, answers ILLEGAL_CMD. -/
def execOp : Op → State → Result
  | .conv f g, s => convert f g s
  | .mkraw f, s => mkraw f s
  | .mknorm f, s => mknorm f s
  | .rescale a b, s => rescaleCommand a b s
  | .slut a b, s => slutCommand a b s
  | .gamma8, s => execGamma8 s
  | .gamma16, s => execGamma16 s
  | .cc .standard24 .standard24, s => colorCorrect .standard24 8 s
  | .cc .standard24 .wide48, s => colorCorrect .wide48 0 s
  | .cc .standard24 _, s => pixResult (.error .illegalCmd) s
  | .cc _ _, s => colorReject s
  | .bgbuild, s => execBgbuild s
  | .bgread, s => execBgread s
  | .stat, s => execStat s

/-- An instruction's meaning is its operation's. -/
theorem exec_eq_execOp (i : Instr) (s : State) : exec i s = execOp i.op s := by cases i <;> rfl

/-! The pixels a command drives (10_state.md R30). -/

/-- The answer drives a pixel of its format or takes a fault. -/
def DrivesFit (m : State → Result) : Prop :=
  ∀ s, ∃ r, m s = pixResult r s ∧ ∀ p, r = .ok p → p.fits = true

theorem convert_drivesFit (f g : Format) : DrivesFit (convert f g) := by
  refine fun s => ⟨_, rfl, fun p hp => ?_⟩
  split at hp
  · obtain ⟨p', hp', -, hfits⟩ := convLanes_ok (g := g) s ‹_›
    cases hp'.symm.trans hp
    exact hfits
  · cases hp

theorem mkraw_drivesFit (f : Format) : DrivesFit (mkraw f) := by
  refine fun s => ⟨_, rfl, fun p hp => ?_⟩
  cases hp
  exact maskPixel_fits f s.issue.pixIn

theorem mknorm_drivesFit (f : Format) : DrivesFit (mknorm f) := by
  refine fun s => ⟨_, rfl, fun p hp => ?_⟩
  split at hp
  · cases hp
    exact normPixel_fits _ f ‹_›
  · cases hp

theorem colorCorrect_drivesFit {dst : Format} {shift : Nat}
    (hd : (dst = .standard24 ∧ shift = 8) ∨ (dst = .wide48 ∧ shift = 0)) : DrivesFit (colorCorrect dst shift) := by
  refine fun s => ⟨_, rfl, fun p hp => ?_⟩
  split at hp
  · exact colorLanes_fits hd hp
  · cases hp

theorem pixFault_drivesFit (c : Cause) : DrivesFit (pixResult (.error c)) :=
  fun _ => ⟨_, rfl, fun _ hp => nomatch hp⟩

theorem execOp_drivesFit {o : Op} (ho : targetOf o = .pix) : DrivesFit (execOp o) := by
  cases o with
  | conv f g => exact convert_drivesFit f g
  | mkraw f => exact mkraw_drivesFit f
  | mknorm f => exact mknorm_drivesFit f
  | cc f g =>
    cases f with
    | standard24 =>
      cases g with
      | standard24 => exact colorCorrect_drivesFit (.inl ⟨rfl, rfl⟩)
      | wide48 => exact colorCorrect_drivesFit (.inr ⟨rfl, rfl⟩)
      | narrow8 => exact pixFault_drivesFit .illegalCmd
      | mid16 => exact pixFault_drivesFit .illegalCmd
    | narrow8 => exact pixFault_drivesFit .ccDomain
    | mid16 => exact pixFault_drivesFit .ccDomain
    | wide48 => exact pixFault_drivesFit .ccDomain
  | rescale | slut | gamma8 | gamma16 | bgbuild | bgread | stat => cases ho

/-- A command that writes `pix_out` drives a pixel of its format or takes a fault. -/
theorem exec_pix_cases {i : Instr} {s t : State} (hi : targetOf i.op = .pix) (h : exec i s = .next t) :
    (∃ p, p.fits = true ∧ t = putPix (some p) s) ∨ ∃ c, t = raiseFault c .pix s := by
  obtain ⟨r, hr, hfits⟩ := execOp_drivesFit hi s
  rw [exec_eq_execOp, hr] at h
  rcases pixResult_cases h with ⟨p, hp, rfl⟩ | ⟨c, -, rfl⟩
  · exact .inl ⟨p, hfits p hp, rfl⟩
  · exact .inr ⟨c, rfl⟩

end Sys2Proof.Machine
end

section
/-! SUPPORT. The ports after a bus is driven (10_state.md R28). -/

namespace Sys2Proof.Machine

theorem putPix_map_dout (v : Option Pixel) (s : State) :
    (putPix v s).ports.map PortOut.dout = s.ports.map PortOut.dout := by
  refine List.ext_getElem? fun p => ?_
  simp only [List.getElem?_map, putPix_getElem?]
  split
  · rw [Option.map_map]; rfl
  · rfl

theorem putDout_map_pix (v : Option Word) (s : State) :
    (putDout v s).ports.map PortOut.pix = s.ports.map PortOut.pix := by
  refine List.ext_getElem? fun p => ?_
  simp only [List.getElem?_map, putDout_getElem?]
  split
  · rw [Option.map_map]; rfl
  · rfl

theorem invalidate_map_pix {t : Target} (s : State) (hp : t ≠ .pix) (hb : t ≠ .both) :
    (invalidate t s).ports.map PortOut.pix = s.ports.map PortOut.pix := by
  cases t with
  | dout => exact putDout_map_pix none s
  | neither => rfl
  | pix => exact absurd rfl hp
  | both => exact absurd rfl hb

theorem invalidate_map_dout {t : Target} (s : State) (hd : t ≠ .dout) (hb : t ≠ .both) :
    (invalidate t s).ports.map PortOut.dout = s.ports.map PortOut.dout := by
  cases t with
  | pix => exact putPix_map_dout none s
  | neither => rfl
  | dout => exact absurd rfl hd
  | both => exact absurd rfl hb

/-- No command has both buses as its target. -/
theorem targetOf_ne_both (o : Op) : targetOf o ≠ .both := by cases o <;> simp [targetOf]

/-- Settles O51: a drive is a `modify` at the issuing port and writes no field but `ports`. -/
theorem busesHoldWhatIsDriven : Obligations.BusesHoldWhatIsDriven :=
  fun s v d p => ⟨putPix_getElem? v s p, putDout_getElem? d s p, rfl, rfl⟩

end Sys2Proof.Machine
end

section
/-! SUPPORT. What a command leaves unchanged (10_state.md R25, R26; 20_memory.md R40; 60_exceptions.md R191). -/

namespace Sys2Proof.Machine

namespace DidCommand

variable {o : Op} {s t : State} (h : DidCommand o s t)
include h

theorem roms : t.scale = s.scale ∧ t.gamma8 = s.gamma8 ∧ t.gamma16 = s.gamma16 := by
  rcases h with ⟨p, -, rfl⟩ | ⟨v, -, rfl⟩ | ⟨c, rfl⟩ | ⟨b, -, -, rfl⟩ <;> simp

theorem bglut : t.bglut = s.bglut := by
  rcases h with ⟨p, -, rfl⟩ | ⟨v, -, rfl⟩ | ⟨c, rfl⟩ | ⟨b, -, -, rfl⟩ <;> simp

theorem inputs : t.cfg = s.cfg ∧ t.issue = s.issue ∧ t.script = s.script := by
  rcases h with ⟨p, -, rfl⟩ | ⟨v, -, rfl⟩ | ⟨c, rfl⟩ | ⟨b, -, -, rfl⟩ <;> simp

theorem build (ho : o ≠ .bgbuild) : t.bgBusy = s.bgBusy ∧ t.bgBright = s.bgBright ∧ t.bgPending = s.bgPending := by
  rcases h with ⟨p, -, rfl⟩ | ⟨v, -, rfl⟩ | ⟨c, rfl⟩ | ⟨b, ho', -, rfl⟩
  · simp
  · simp
  · simp
  · exact absurd ho' ho

theorem ports_length : t.ports.length = s.ports.length := by
  rcases h with ⟨p, -, rfl⟩ | ⟨v, -, rfl⟩ | ⟨c, rfl⟩ | ⟨b, -, -, rfl⟩ <;> simp [-putPix_ports, -putDout_ports]

theorem other_port {p : Nat} (hp : p ≠ s.issue.port) : t.ports[p]? = s.ports[p]? := by
  rcases h with ⟨x, -, rfl⟩ | ⟨v, -, rfl⟩ | ⟨c, rfl⟩ | ⟨b, -, -, rfl⟩
  · rw [putPix_getElem?, if_neg hp.symm]
  · rw [putDout_getElem?, if_neg hp.symm]
  · exact raiseFault_other_port c _ s hp.symm
  · rfl

theorem map_pix (ho : targetOf o ≠ .pix) : t.ports.map PortOut.pix = s.ports.map PortOut.pix := by
  rcases h with ⟨p, ho', rfl⟩ | ⟨v, -, rfl⟩ | ⟨c, rfl⟩ | ⟨b, -, -, rfl⟩
  · exact absurd ho' ho
  · exact putDout_map_pix _ s
  · rw [raiseFault_ports, invalidate_map_pix s ho (targetOf_ne_both o)]
  · rfl

theorem map_dout (ho : targetOf o ≠ .dout) : t.ports.map PortOut.dout = s.ports.map PortOut.dout := by
  rcases h with ⟨p, -, rfl⟩ | ⟨v, ho', rfl⟩ | ⟨c, rfl⟩ | ⟨b, -, -, rfl⟩
  · exact putPix_map_dout _ s
  · exact absurd ho' ho
  · rw [raiseFault_ports, invalidate_map_dout s ho (targetOf_ne_both o)]
  · rfl

end DidCommand

/-- An operation names the instruction it is of. -/
theorem instr?_op (i : Instr) : i.op.instr? = some i := by cases i <;> rfl

theorem eq_bgbuild_of_op {i : Instr} (h : i.op = .bgbuild) : i = .bgbuild := by
  have hi := instr?_op i
  rw [h] at hi
  exact (Option.some.inj hi).symm

/-- Settles O52: each clause is a frame of the four things a command can have done. -/
theorem commandFrames : Obligations.CommandFrames := by
  intro i s t h
  have hdid := exec_cases h
  obtain ⟨hscale, hg8, hg16⟩ := hdid.roms
  obtain ⟨hcfg, hissue, hscript⟩ := hdid.inputs
  exact ⟨hcfg, hscale, hg8, hg16, hissue, hscript, fun a => by rw [hdid.bglut], fun hi => hdid.build (mt eq_bgbuild_of_op hi),
    hdid.ports_length, fun p hp => hdid.other_port hp, hdid.map_pix, hdid.map_dout⟩

end Sys2Proof.Machine
end

section
/-! SUPPORT. The induction over what a step can do: a predicate kept by each of the machine's updates is kept by every step. -/

namespace Sys2Proof.Machine

/-- The predicate is kept by every update a step is made of, each under what the step knows when it makes it. -/
structure Kept (P : State → Prop) : Prop where
  script : ∀ {s : State} (es : List Event), P s → P (withScript es s)
  issue : ∀ {s : State} {q : Issue}, q.port < s.ports.length → P s → P (withIssue q s)
  pixel : ∀ {s : State} {p : Pixel}, p.fits = true → P s → P (putPix (some p) s)
  value : ∀ {s : State} (v : Word), P s → P (putDout (some v) s)
  fault : ∀ {s : State} (c : Cause) (t : Target), P s → P (raiseFault c t s)
  build : ∀ {s : State} (b : Byte), P s → P (startBuild b s)
  entry : ∀ {s : State} {b : Byte} (i : Fin 256), s.bgBusy = true → s.bgBright = some b → P s → P (writeEntry i b s)
  swap : ∀ {s : State} {b : Byte}, s.bgBright = some b → P s → P (swapTable b s)
  reset : ∀ {s : State}, P s → P (resetAction s)

namespace Kept

variable {P : State → Prop} (k : Kept P)
include k

theorem exec {i : Instr} {s t : State} (h : Machine.exec i s = .next t) (hs : P s) : P t := by
  by_cases hi : targetOf i.op = .pix
  · rcases exec_pix_cases hi h with ⟨p, hp, rfl⟩ | ⟨c, rfl⟩
    · exact k.pixel hp hs
    · exact k.fault c .pix hs
  · rcases exec_cases h with ⟨p, hi', -⟩ | ⟨v, -, rfl⟩ | ⟨c, rfl⟩ | ⟨b, -, -, rfl⟩
    · exact absurd hi' hi
    · exact k.value v hs
    · exact k.fault c _ hs
    · exact k.build b hs

theorem agent {n : Nat} {s t : State} (h : agentStep n s = .ok t) (hs : P s) : P t := by
  rcases agentStep_cases h with ⟨rfl, -⟩ | ⟨b, i, hb, hbr, -, -, rfl⟩ | ⟨b, -, hbr, -, rfl⟩
  · exact hs
  · exact k.entry i hb hbr hs
  · exact k.swap hbr hs

theorem step {s t : State} (h : Machine.step s = .next t) (hs : P s) : P t := by
  rcases step_cases h with ⟨-, rfl⟩ | ⟨q, rest, i, -, hq, -, he⟩ | ⟨q, rest, r, -, hq, -, rfl⟩ | ⟨n, rest, -, ha⟩ | ⟨rest, -, rfl⟩
  · exact hs
  · exact k.exec he (k.issue hq (k.script rest hs))
  · exact k.fault .illegalCmd .both (k.issue hq (k.script rest hs))
  · exact k.agent ha (k.script rest hs)
  · exact k.reset (k.script rest hs)

end Kept

/-! The read-only tables and the dimming table. -/

/-- The three kinds of ROM are those of a fixed state. -/
def RomsOf (s u : State) : Prop := u.scale = s.scale ∧ u.gamma8 = s.gamma8 ∧ u.gamma16 = s.gamma16

theorem romsOf_kept (s : State) : Kept (RomsOf s) where
  script _ h := h
  issue _ h := h
  pixel _ h := h
  value _ h := h
  fault c t h := by simpa [RomsOf] using h
  build _ h := h
  entry _ _ _ h := h
  swap _ h := h
  reset h := h

/-- Settles O54: no update of the machine writes a ROM. -/
theorem romsNeverChange : Obligations.RomsNeverChange :=
  ⟨rfl, fun s _ h => (romsOf_kept s).step h ⟨rfl, rfl, rfl⟩⟩

/-- Settles O53: a command starts a build at most, and the table is written by the agent alone. -/
theorem onlyAgentWritesTable : Obligations.OnlyAgentWritesTable := by
  intro s t h hagent hreset a
  rcases step_cases h with ⟨-, rfl⟩ | ⟨q, rest, i, -, -, -, he⟩ | ⟨q, rest, r, -, -, -, rfl⟩ | ⟨k, rest, hs, -⟩ | ⟨rest, hs, -⟩
  · rfl
  · rw [(exec_cases he).bglut]; rfl
  · simp [illegalCommand]
  · exact absurd (by rw [hs]; rfl) (hagent k)
  · exact absurd (by rw [hs]; rfl) hreset

end Sys2Proof.Machine
end

section
/-! SUPPORT. The invariants of the state (10_state.md R30, R32; 43_background.md R163, R167): each update keeps them, so every step does. -/

namespace Sys2Proof.Machine

/-! The parts of the invariants an update can touch. -/

theorem code_ne_zero (c : Cause) : c.code ≠ 0 := by cases c <;> decide

theorem code_toNat_le (c : Cause) : c.code.toNat ≤ 7 := by cases c <;> decide

/-- The first cause is recorded together with FAULT and is kept while FAULT stays. -/
theorem raiseFault_cause_iff {s : State} (c : Cause) (t : Target) (h : s.cause = 0 ↔ s.fault = false) :
    (raiseFault c t s).cause = 0 ↔ (raiseFault c t s).fault = false := by
  rw [raiseFault_cause, raiseFault_fault]
  cases hf : s.fault with
  | false => simpa using code_ne_zero c
  | true => simpa [hf] using h

theorem raiseFault_cause_le {s : State} (c : Cause) (t : Target) (h : s.cause.toNat ≤ 7) :
    (raiseFault c t s).cause.toNat ≤ 7 := by
  rw [raiseFault_cause]
  split
  · exact h
  · exact code_toNat_le c

/-- A build's entry ends it exactly when nothing is left pending. -/
theorem writeEntry_busy_iff {s : State} (i : Fin 256) (b : Byte) (h : s.bgBusy = true) :
    (writeEntry i b s).bgBusy = true ↔ (writeEntry i b s).bgPending ≠ [] := by
  rw [writeEntry_bgBusy, writeEntry_bgPending, h]
  by_cases hp : s.bgPending.erase i = [] <;> simp [hp]

/-- After one entry of a build, every index no longer pending holds the formula's value. -/
theorem writeEntry_table {s : State} {b : Byte} (i : Fin 256)
    (h : ∀ j : Fin 256, j ∉ s.bgPending → s.bglut.read j.val = some (bgEntry s j b))
    (j : Fin 256) (hj : j ∉ (writeEntry i b s).bgPending) : (writeEntry i b s).bglut.read j.val = some (bgEntry s j b) := by
  rw [writeEntry_bglut, Memory.read_write]
  by_cases hij : i = j
  · rw [if_pos (congrArg Fin.val hij), hij]
  · rw [if_neg (fun hv => hij (Fin.ext hv))]
    refine h j fun hmem => hj ?_
    rw [writeEntry_bgPending]
    exact (List.mem_erase_of_ne (Ne.symm hij)).2 hmem

theorem swapTable_table (s : State) (b : Byte) (j : Fin 256) :
    (swapTable b s).bglut.read j.val = some (bgEntry s j b) := by
  rw [swapTable_bglut, read_writeAll, dif_pos j.isLt, if_pos (mem_allIndices _)]

/-! The four invariants of R32. -/

theorem specInvariants_kept : Kept SpecInvariants where
  script _ h := h
  issue _ h := h
  pixel _ h := h
  value _ h := h
  fault c t h := by
    obtain ⟨hbusy, hbright, hcause, -⟩ := h
    exact ⟨by simpa using hbusy, by simpa using hbright, raiseFault_cause_iff c t hcause, fun _ v _ => v.isLt⟩
  build b h := by
    obtain ⟨-, -, hcause, hlut⟩ := h
    exact ⟨by simpa using allIndices_ne_nil, by simp, hcause, hlut⟩
  entry i hb hbr h := by
    obtain ⟨-, -, hcause, -⟩ := h
    exact ⟨writeEntry_busy_iff i _ hb, by simp [hbr], hcause, fun _ v _ => v.isLt⟩
  swap _ h := by
    obtain ⟨-, -, hcause, -⟩ := h
    exact ⟨by simp, by simp, hcause, fun _ v _ => v.isLt⟩
  reset _ := ⟨by simp, by simp, by simp, fun _ v _ => v.isLt⟩

/-- Settles O4: at reset nothing is pending and nothing has faulted, and every update keeps the four. -/
theorem specInvariantsKept : Obligations.SpecInvariantsKept :=
  ⟨⟨by simp [State.reset], by simp [State.reset], by simp [State.reset], fun _ v _ => v.isLt⟩,
    fun _ _ hs h => specInvariants_kept.step h hs⟩

/-! The pixels on the buses. -/

/-- Every pixel on an output bus is a pixel of its format (10_state.md R30). -/
def PixelsFit (s : State) : Prop := ∀ o ∈ s.ports, ∀ p, o.pix = some p → p.fits = true

/-- The pixels matter alone, not the ports that hold them. -/
theorem pixelsFit_iff (s : State) : PixelsFit s ↔ ∀ p, some p ∈ s.ports.map PortOut.pix → p.fits = true := by
  simp only [PixelsFit, List.mem_map]
  exact ⟨fun h p ⟨o, ho, hp⟩ => h o ho p hp, fun h o ho p hp => h p ⟨o, ho, hp⟩⟩

theorem pixelsFit_putPix {s : State} {v : Option Pixel} (hv : ∀ p, v = some p → p.fits = true) (h : PixelsFit s) :
    PixelsFit (putPix v s) := by
  intro o ho p hp
  obtain ⟨n, hn⟩ := List.mem_iff_getElem?.1 ho
  rw [putPix_getElem?] at hn
  split at hn
  · obtain ⟨o', -, rfl⟩ := Option.map_eq_some_iff.1 hn
    exact hv p hp
  · exact h o (List.mem_of_getElem? hn) p hp

theorem pixelsFit_putDout {s : State} (v : Option Word) (h : PixelsFit s) : PixelsFit (putDout v s) := by
  rw [pixelsFit_iff, putDout_map_pix, ← pixelsFit_iff]
  exact h

theorem pixelsFit_raiseFault {s : State} (c : Cause) (t : Target) (h : PixelsFit s) : PixelsFit (raiseFault c t s) := by
  have hbot : PixelsFit (putPix none s) := pixelsFit_putPix (fun _ hp => nomatch hp) h
  unfold PixelsFit
  rw [raiseFault_ports]
  cases t with
  | pix => exact hbot
  | dout => exact pixelsFit_putDout none h
  | both => exact pixelsFit_putDout none hbot
  | neither => exact h

/-! The invariant. -/

theorem raiseFault_inv {s : State} (c : Cause) (t : Target) (h : s.Inv) : (raiseFault c t s).Inv where
  scale := by simpa using h.scale
  gamma8 := by simpa using h.gamma8
  gamma16 := by simpa using h.gamma16
  bglut := by simpa using h.bglut
  busy := by simpa using h.busy
  pending := by simpa using h.pending
  bright := by simpa using h.bright
  cause := raiseFault_cause_iff c t h.cause
  causeLegal := raiseFault_cause_le c t h.causeLegal
  pixels := pixelsFit_raiseFault c t h.pixels
  table := by simpa [bgEntry] using h.table
  port := by simpa using h.port

theorem startBuild_inv {s : State} (b : Byte) (h : s.Inv) : (startBuild b s).Inv :=
  { h with
    busy := by simpa using allIndices_ne_nil
    pending := allIndices_rising
    bright := by simp
    table := fun _ _ i hi => absurd (mem_allIndices i) hi }

theorem writeEntry_inv {s : State} {b : Byte} (i : Fin 256) (hb : s.bgBusy = true) (hbr : s.bgBright = some b) (h : s.Inv) :
    (writeEntry i b s).Inv :=
  { h with
    bglut := Memory.wf_write _ i.isLt h.bglut
    busy := writeEntry_busy_iff i b hb
    pending := h.pending.sublist List.erase_sublist
    bright := by simp [hbr]
    table := fun b' hb' j hj => by
      obtain rfl : b = b' := Option.some.inj (hbr.symm.trans hb')
      exact writeEntry_table i (h.table b hbr) j hj }

theorem swapTable_inv {s : State} {b : Byte} (hbr : s.bgBright = some b) (h : s.Inv) : (swapTable b s).Inv :=
  { h with
    bglut := writeAll_wf allIndices h.bglut
    busy := by simp
    pending := List.Pairwise.nil
    bright := by simp
    table := fun b' hb' j _ => by
      obtain rfl : b = b' := Option.some.inj (hbr.symm.trans hb')
      exact swapTable_table s b j }

theorem resetAction_inv {s : State} (h : s.Inv) : (resetAction s).Inv :=
  { h with
    bglut := Memory.wf_nil
    busy := by simp
    pending := List.Pairwise.nil
    bright := by simp
    cause := by simp
    causeLegal := Nat.zero_le 7
    pixels := by simp [PortOut.empty]
    table := by simp
    port := by simpa using h.port }

theorem inv_kept : Kept State.Inv where
  script _ h := { h with }
  issue hq h := { h with port := hq }
  pixel hp h := { h with
    pixels := pixelsFit_putPix (fun _ hv => Option.some.inj hv ▸ hp) h.pixels
    port := by simpa using h.port }
  value v h := { h with
    pixels := pixelsFit_putDout (some v) h.pixels
    port := by simpa using h.port }
  fault c t h := raiseFault_inv c t h
  build b h := startBuild_inv b h
  entry i hb hbr h := writeEntry_inv i hb hbr h
  swap hbr h := swapTable_inv hbr h
  reset h := resetAction_inv h

/-- Settles O3: the invariant is kept by every update a step is made of. -/
theorem stepKeepsInvariant : Obligations.StepKeepsInvariant := fun _ _ hs h => inv_kept.step h hs

/-! Reset (10_state.md R34). -/

theorem reset_port_empty : ∀ o ∈ State.reset.ports, o.pix = none ∧ o.dout = none := by
  simp [State.reset, PortOut.empty]

/-- Settles O1, field by field of `State.reset`. -/
theorem resetStateIsAsStated : Obligations.ResetStateIsAsStated :=
  ⟨rfl, rfl, rfl, Memory.read_nil, rfl, rfl, rfl, rfl, rfl, reset_port_empty⟩

/-- Settles O2: the gamma tables are within their limits whatever the free numbers are, and the latched port 0 exists (log 3, log 11). -/
theorem resetMeetsInvariant : Obligations.ResetMeetsInvariant where
  scale := rfl
  gamma8 := gamma8Table_ok _
  gamma16 := gamma16Table_ok _
  bglut := Memory.wf_nil
  busy := by simp [State.reset]
  pending := List.Pairwise.nil
  bright := by simp [State.reset]
  cause := by simp [State.reset]
  causeLegal := Nat.zero_le 7
  pixels o ho p hp := by
    obtain ⟨hpix, -⟩ := reset_port_empty o ho
    rw [hpix] at hp
    cases hp
  table _ hb := nomatch hb
  port := Nat.zero_lt_one

end Sys2Proof.Machine
end

section
/-! SUPPORT. What a command takes from its input buses (10_state.md R29; 30_encoding.md R64; log 16): the updates and the table reads look at
none of them but the port. -/

namespace Sys2Proof.Machine

/-! The updates under other latched inputs on the same port. -/

theorem putPix_withIssue {q : Issue} {s : State} (v : Option Pixel) (hq : q.port = s.issue.port) :
    putPix v (withIssue q s) = withIssue q (putPix v s) := by
  simp only [putPix, withIssue, hq]

theorem putDout_withIssue {q : Issue} {s : State} (v : Option Word) (hq : q.port = s.issue.port) :
    putDout v (withIssue q s) = withIssue q (putDout v s) := by
  simp only [putDout, withIssue, hq]

theorem invalidate_withIssue {q : Issue} {s : State} (t : Target) (hq : q.port = s.issue.port) :
    invalidate t (withIssue q s) = withIssue q (invalidate t s) := by
  cases t with
  | pix => exact putPix_withIssue none hq
  | dout => exact putDout_withIssue none hq
  | both => rw [invalidate_both, putPix_withIssue none hq]; exact putDout_withIssue none hq
  | neither => rfl

theorem recordCause_withIssue (c : Cause) (q : Issue) (s : State) :
    recordCause c (withIssue q s) = withIssue q (recordCause c s) := by
  unfold recordCause
  rw [withIssue_fault]
  split <;> rfl

theorem raiseFault_withIssue {q : Issue} {s : State} (c : Cause) (t : Target) (hq : q.port = s.issue.port) :
    raiseFault c t (withIssue q s) = withIssue q (raiseFault c t s) := by
  rw [raiseFault, invalidate_withIssue t hq, recordCause_withIssue]; rfl

theorem memRead_withIssue (sp : Space) (i : Nat) (q : Issue) (s : State) : memRead sp i (withIssue q s) = memRead sp i s := by
  cases sp <;> rfl

theorem rescale_withIssue (a b : Width) (v : Nat) (q : Issue) (s : State) : rescale a b v (withIssue q s) = rescale a b v s := by
  simp only [rescale, memRead_withIssue]

theorem convLanes_withIssue (f g : Format) (c : Channels) (q : Issue) (s : State) :
    convLanes f g c (withIssue q s) = convLanes f g c s := by
  simp only [convLanes, rescale_withIssue]

theorem colorLanes_withIssue (g : Format) (n : Nat) (c : Channels) (q : Issue) (s : State) :
    colorLanes g n c (withIssue q s) = colorLanes g n c s := by
  simp only [colorLanes, memRead_withIssue]

/-! The commands. -/

/-- The command answers a next state, and under the other inputs the same one but for the inputs. -/
def SameUnder (q : Issue) (s : State) (m : State → Result) : Prop :=
  ∃ t, m s = .next t ∧ m (withIssue q s) = .next (withIssue q t)

section families

variable {q : Issue} {s : State} (hq : q.port = s.issue.port)
include hq

theorem sameUnder_pixResult {r : State → Except Cause Pixel} (hr : r (withIssue q s) = r s) :
    SameUnder q s fun u => pixResult (r u) u := by
  simp only [SameUnder, hr]
  cases r s with
  | ok p => exact ⟨_, rfl, congrArg _ (putPix_withIssue (some p) hq)⟩
  | error c => exact ⟨_, rfl, congrArg _ (raiseFault_withIssue c .pix hq)⟩

theorem sameUnder_doutResult {r : State → Except Cause Word} (hr : r (withIssue q s) = r s) :
    SameUnder q s fun u => doutResult (r u) u := by
  simp only [SameUnder, hr]
  cases r s with
  | ok v => exact ⟨_, rfl, congrArg _ (putDout_withIssue (some v) hq)⟩
  | error c => exact ⟨_, rfl, congrArg _ (raiseFault_withIssue c .dout hq)⟩

theorem sameUnder_convert (f g : Format) (hp : q.pixIn = s.issue.pixIn) : SameUnder q s (convert f g) :=
  sameUnder_pixResult hq (by simp only [withIssue_issue, hp, convLanes_withIssue])

theorem sameUnder_mkraw (f : Format) (hp : q.pixIn = s.issue.pixIn) : SameUnder q s (mkraw f) :=
  sameUnder_pixResult hq (by simp only [withIssue_issue, hp])

theorem sameUnder_mknorm (f : Format) (hn : q.normIn = s.issue.normIn) : SameUnder q s (mknorm f) :=
  sameUnder_pixResult hq (by simp only [withIssue_issue, withIssue_cfg, hn])

theorem sameUnder_colorCorrect (g : Format) (n : Nat) (hp : q.pixIn = s.issue.pixIn) : SameUnder q s (colorCorrect g n) :=
  sameUnder_pixResult hq (by simp only [withIssue_issue, hp, colorLanes_withIssue])

theorem sameUnder_pixFault (c : Cause) : SameUnder q s (pixResult (.error c)) := sameUnder_pixResult hq (r := fun _ => .error c) rfl

theorem sameUnder_rescaleCommand (a b : Width) (hd : q.din = s.issue.din) : SameUnder q s (rescaleCommand a b) :=
  sameUnder_doutResult hq (by simp only [withIssue_issue, hd, rescale_withIssue])

/-- The four commands that read one entry, at the index `din`. -/
theorem sameUnder_read (sp : Space) (hd : q.din = s.issue.din) :
    SameUnder q s fun u => doutResult (memRead sp u.issue.din.toNat u) u :=
  sameUnder_doutResult hq (by simp only [withIssue_issue, hd, memRead_withIssue])

theorem sameUnder_slutCommand (a b : Width) (hd : q.din = s.issue.din) : SameUnder q s (slutCommand a b) := by
  unfold slutCommand
  cases scaleTable? a b with
  | some t => exact sameUnder_read hq (.scale t) hd
  | none => exact sameUnder_doutResult hq (r := fun _ => .error .illegalCmd) rfl

theorem sameUnder_execBgbuild (hd : q.din = s.issue.din) : SameUnder q s execBgbuild := by
  unfold SameUnder execBgbuild
  simp only [withIssue_bgBusy, withIssue_issue, hd, raiseFault_withIssue _ _ hq]
  split
  · exact ⟨_, rfl, rfl⟩
  · split <;> exact ⟨_, rfl, rfl⟩

theorem sameUnder_execStat : SameUnder q s execStat := ⟨_, rfl, congrArg _ (putDout_withIssue _ hq)⟩

theorem sameUnder_execOp {o : Op} (hp : readsPix o = true → q.pixIn = s.issue.pixIn)
    (hd : readsDin o = true → q.din = s.issue.din) (hn : readsNorm o = true → q.normIn = s.issue.normIn) :
    SameUnder q s (execOp o) := by
  cases o with
  | conv f g => exact sameUnder_convert hq f g (hp rfl)
  | mkraw f => exact sameUnder_mkraw hq f (hp rfl)
  | mknorm f => exact sameUnder_mknorm hq f (hn rfl)
  | rescale a b => exact sameUnder_rescaleCommand hq a b (hd rfl)
  | slut a b => exact sameUnder_slutCommand hq a b (hd rfl)
  | gamma8 => exact sameUnder_read hq .gamma8 (hd rfl)
  | gamma16 => exact sameUnder_read hq .gamma16 (hd rfl)
  | cc f g =>
    cases f with
    | standard24 =>
      cases g with
      | standard24 => exact sameUnder_colorCorrect hq .standard24 8 (hp rfl)
      | wide48 => exact sameUnder_colorCorrect hq .wide48 0 (hp rfl)
      | narrow8 => exact sameUnder_pixFault hq .illegalCmd
      | mid16 => exact sameUnder_pixFault hq .illegalCmd
    | narrow8 => exact sameUnder_pixFault hq .ccDomain
    | mid16 => exact sameUnder_pixFault hq .ccDomain
    | wide48 => exact sameUnder_pixFault hq .ccDomain
  | bgbuild => exact sameUnder_execBgbuild hq (hd rfl)
  | bgread => exact sameUnder_read hq .bglut (hd rfl)
  | stat => exact sameUnder_execStat hq

end families

/-- Settles O55: each family answers from the inputs it reads, and no update looks at another. -/
theorem unreadInputsIgnored : Obligations.UnreadInputsIgnored := by
  intro i s q hq hp hd hn
  simp only [exec_eq_execOp]
  exact sameUnder_execOp hq hp hd hn

/-! A presented word. -/

@[simp] theorem tableWord_toNat (w : Word) : tableWord 16 w.toNat = w := by
  rw [tableWord, Nat.mod_eq_of_lt w.isLt, BitVec.ofNat_toNat, BitVec.setWidth_eq]

/-- Settles O13: the presented word heads the script, and its step leaves the script it stood before. -/
theorem withFetchWordRunsWord : Obligations.WithFetchWordRunsWord := by
  intro s w i hport hd
  have hscript : (s.withFetchWord 16 w.toNat).script = .command { s.issue with cmd := w } :: s.script := by
    rw [State.withFetchWord, tableWord_toNat]; rfl
  exact stepRunsDecodedCommand _ _ _ i hscript hport hd

end Sys2Proof.Machine
end

section
/-! SUPPORT. What a step makes of the events that are not commands, and of a command on a missing port (20_memory.md R47;
70_reset_and_hazards.md R220; log 2, log 4, log 14). -/

namespace Sys2Proof.Machine

variable {s : State} {rest : List Event}

theorem step_of_empty_script (hs : s.script = []) : step s = .next s := by
  simp only [step, fetch, hs]

/-- An agent event is the agent's step and nothing more: the one answers a next state exactly when the other does, and the same one. -/
theorem step_buildAgent_iff {k : Nat} {t : State} (hs : s.script = .buildAgent k :: rest) :
    step s = .next t ↔ agentStep k (withScript rest s) = .ok t := by
  simp only [step, fetch, hs, applyEvent]
  cases agentStep k (withScript rest s) <;> simp

theorem step_of_reset (hs : s.script = .reset :: rest) : step s = .next (resetAction (withScript rest s)) := by
  simp only [step, fetch, hs, applyEvent]

theorem step_of_missing_port {q : Issue} (hs : s.script = .command q :: rest) (hq : s.ports.length ≤ q.port) :
    step s = .fault .noSuchPort := by
  have hport : ¬ q.port < (withScript rest s).ports.length := by simpa using hq
  simp only [step, fetch, hs, applyEvent, acceptCommand, if_neg hport]

/-- Settles O14, one event at a time. -/
theorem otherEventsStep : Obligations.OtherEventsStep :=
  fun _ _ => ⟨step_of_empty_script, fun _ _ hs => (step_buildAgent_iff hs).2, step_of_reset, fun _ => step_of_missing_port⟩

end Sys2Proof.Machine
end

section
/-! SUPPORT. BGLUT during a build and after it (20_memory.md R49, R50, R52): an entry still pending is the old one, and with nothing pending
every entry is the new one. -/

namespace Sys2Proof.Machine

/-- An index still pending after an agent step is not the one the step wrote, as no index is pending twice. -/
theorem agentStep_read_of_pending {k : Nat} {s t : State} {i : Fin 256} (h : agentStep k s = .ok t) (hnodup : s.bgPending.Nodup)
    (hi : i ∈ t.bgPending) : t.bglut.read i.val = s.bglut.read i.val := by
  rcases agentStep_cases h with ⟨rfl, -⟩ | ⟨b, j, -, -, -, -, rfl⟩ | ⟨b, -, -, -, rfl⟩
  · rfl
  · rw [writeEntry_bgPending, hnodup.mem_erase_iff] at hi
    obtain ⟨hij, -⟩ := hi
    exact Memory.read_write_other _ _ (Fin.val_ne_of_ne hij.symm)
  · exact absurd hi List.not_mem_nil

/-- Settles O48: the agent writes the index it takes off `bg_pending` and no other, and apart from reset nothing else writes BGLUT. -/
theorem pendingEntryKeepsOldValue : Obligations.PendingEntryKeepsOldValue := by
  intro s t hinv h hreset i hi
  by_cases hagent : ∃ k, s.script.head? = some (.buildAgent k)
  · obtain ⟨k, hk⟩ := hagent
    obtain ⟨rest, hs⟩ := List.head?_eq_some_iff.1 hk
    exact agentStep_read_of_pending (s := withScript rest s) ((step_buildAgent_iff hs).1 h) hinv.pending.nodup hi
  · exact onlyAgentWritesTable s t h (not_exists.1 hagent) hreset i.val

/-- Bit 0 of the status word is BUSY (10_state.md R27). -/
@[simp] theorem statusWord_bit_zero (s : State) : (statusWord s).getLsbD 0 = s.bgBusy := by
  rw [statusWord, statusBits, BitVec.getLsbD_append]
  simp

/-- The value driven is the value the issuing port holds. -/
theorem dout_of_putDout {d : Option Word} {s : State} {o : PortOut} (h : (putDout d s).ports[s.issue.port]? = some o) :
    o.dout = d := by
  rw [putDout_getElem?, if_pos rfl, Option.map_eq_some_iff] at h
  obtain ⟨_, -, rfl⟩ := h
  rfl

/-- With no build running, nothing is pending and the whole table is that of the latched brightness (43_background.md R167). -/
theorem State.Inv.table_complete {s : State} {b : Byte} (hinv : s.Inv) (hidle : s.bgBusy = false) (hb : s.bgBright = some b) :
    s.bgPending = [] ∧ ∀ i : Fin 256, s.bglut.read i.val = some (bgEntry s i b) := by
  have hnil : s.bgPending = [] := by
    by_contra hne
    exact Bool.false_ne_true (hidle.symm.trans (hinv.busy.2 hne))
  refine ⟨hnil, fun i => hinv.table b hb i ?_⟩
  rw [hnil]
  exact List.not_mem_nil

/-- Settles O49: the word on `dout` is the status word, whose bit 0 is `bg_busy`, and STAT writes no other state. -/
theorem statusZeroMeansComplete : Obligations.StatusZeroMeansComplete := by
  intro s t o w b hinv h ho hw hbit hb
  obtain rfl : putDout (some (statusWord s)) s = t := Host.Outcome.next.inj h
  obtain rfl : statusWord s = w := Option.some.inj ((dout_of_putDout ho).symm.trans hw)
  rw [statusWord_bit_zero] at hbit
  exact hinv.table_complete hbit hb

end Sys2Proof.Machine
end

section
/-! SUPPORT. The encoding, read in both directions (30_encoding.md R60 to R69): the words of the operations are those the decoder reads as
operations, and the operations that have an instruction are the well-formed ones. -/

namespace Sys2Proof.Machine

/-! The field codes (R61, R63). -/

theorem field_lt (hi lo : Nat) (w : Word) : field hi lo w < 2 ^ (hi + 1 - lo) := Nat.mod_lt _ (by positivity)

theorem code_formatOfCode {n : Nat} (h : n < 4) : (formatOfCode n).code = n := by
  interval_cases n <;> rfl

theorem widthOfCode?_eq_some_iff {n : Nat} {a : Width} : widthOfCode? n = some a ↔ a.code = n := by
  constructor
  · intro h
    unfold widthOfCode? at h
    split at h <;> cases h <;> rfl
  · rintro rfl
    cases a <;> rfl

theorem exists_width_code {n : Nat} (h : n < 6) : ∃ a : Width, a.code = n := by
  interval_cases n
  exacts [⟨.w2, rfl⟩, ⟨.w3, rfl⟩, ⟨.w5, rfl⟩, ⟨.w6, rfl⟩, ⟨.w8, rfl⟩, ⟨.w16, rfl⟩]

/-! What a word that decodes holds below its major opcode, by the four formats of R62. -/

section formats

variable {w : Word} {o : Op}

theorem decodeF2_ok {k : Format → Format → Op} (h : decodeF2 k w = .ok o) :
    ∃ f g, k f g = o ∧ w.toNat % 4096 = f.code * 2 ^ 10 + g.code * 2 ^ 8 := by
  unfold decodeF2 at h
  split at h
  · refine ⟨_, _, Except.ok.inj h, ?_⟩
    rw [code_formatOfCode (field_lt 11 10 w), code_formatOfCode (field_lt 9 8 w)]
    simp only [field] at *
    omega
  · cases h

theorem decodeF1_ok {k : Format → Op} (h : decodeF1 k w = .ok o) : ∃ f, k f = o ∧ w.toNat % 4096 = f.code * 2 ^ 10 := by
  unfold decodeF1 at h
  split at h
  · refine ⟨_, Except.ok.inj h, ?_⟩
    rw [code_formatOfCode (field_lt 11 10 w)]
    simp only [field] at *
    omega
  · cases h

theorem decodeW2_ok {k : Width → Width → Op} (h : decodeW2 k w = .ok o) :
    ∃ a b, k a b = o ∧ w.toNat % 4096 = a.code * 2 ^ 9 + b.code * 2 ^ 6 := by
  unfold decodeW2 at h
  split at h
  · split at h
    · rename_i a b ha hb
      rw [widthOfCode?_eq_some_iff] at ha hb
      refine ⟨a, b, Except.ok.inj h, ?_⟩
      simp only [field] at *
      omega
    · cases h
  · cases h

theorem decodeN_ok {o' : Op} (h : decodeN o' w = .ok o) : o' = o ∧ w.toNat % 4096 = 0 := by
  unfold decodeN at h
  split at h
  · refine ⟨Except.ok.inj h, ?_⟩
    simpa [field] using ‹field 11 0 w = 0›
  · cases h

end formats

/-! Operations and their words (R65). -/

/-- A word read as an operation is that operation's word: every bit is in the opcode, in a field or 0. -/
theorem encodeOp_of_decodeOp {w : Word} {o : Op} (h : decodeOp w = .ok o) : encodeOp o = w.toNat := by
  have hsum : w.toNat = field 15 12 w * 4096 + w.toNat % 4096 := by
    have := w.isLt
    simp only [field]
    omega
  unfold decodeOp at h
  split at h
  case h_1 hop | h_8 hop =>
    obtain ⟨f, g, rfl, hlow⟩ := decodeF2_ok h
    rw [hsum, hop, hlow, encodeOp]; omega
  case h_2 hop | h_3 hop =>
    obtain ⟨f, rfl, hlow⟩ := decodeF1_ok h
    rw [hsum, hop, hlow, encodeOp]
  case h_4 hop | h_5 hop =>
    obtain ⟨a, b, rfl, hlow⟩ := decodeW2_ok h
    rw [hsum, hop, hlow, encodeOp]; omega
  case h_6 hop | h_7 hop | h_9 hop | h_10 hop | h_11 hop =>
    obtain ⟨rfl, hlow⟩ := decodeN_ok h
    rw [hsum, hop, hlow, encodeOp]
  case h_12 => cases h

/-- The word of every operation is read as it, whether the operation is legal or not. -/
theorem decodeOp_encodeOp (o : Op) : decodeOp (BitVec.ofNat 16 (encodeOp o)) = .ok o := by
  cases o with
  | conv f g | cc f g => cases f <;> cases g <;> rfl
  | mkraw f | mknorm f => cases f <;> rfl
  | rescale a b | slut a b => cases a <;> cases b <;> rfl
  | gamma8 | gamma16 | bgbuild | bgread | stat => rfl

theorem decodeOp_eq_ok_iff {w : Word} {o : Op} : decodeOp w = .ok o ↔ BitVec.ofNat 16 (encodeOp o) = w := by
  constructor
  · intro h
    rw [encodeOp_of_decodeOp h, BitVec.ofNat_toNat, BitVec.setWidth_eq]
  · rintro rfl
    exact decodeOp_encodeOp o

/-! Operations and instructions (R65 to R67). -/

theorem instr?_eq_some_iff {o : Op} {i : Instr} : o.instr? = some i ↔ i.op = o := by
  constructor
  · intro h
    unfold Op.instr? at h
    split at h <;> cases h <;> rfl
  · rintro rfl
    exact instr?_op i

/-- The operations that have an instruction are the well-formed ones. -/
theorem instr?_isSome (o : Op) : o.instr?.isSome = o.wf := by
  cases o with
  | conv f g | cc f g => cases f <;> cases g <;> rfl
  | mkraw f | mknorm f => cases f <;> rfl
  | rescale a b | slut a b => cases a <;> cases b <;> rfl
  | gamma8 | gamma16 | bgbuild | bgread | stat => rfl

/-- A word decodes to an instruction exactly when it is the instruction's word. -/
theorem decode_eq_ok_iff {w : Word} {i : Instr} : decode w = .ok i ↔ encode i = w := by
  rw [encode, ← decodeOp_eq_ok_iff, decode]
  cases decodeOp w with
  | error r => simp
  | ok o =>
    rw [Except.ok.injEq, eq_comm (a := o), ← instr?_eq_some_iff]
    cases ho : o.instr? <;> simp [ho]

/-- Settles O6: both halves are the one equivalence. -/
theorem encodeDecodeAgree : Obligations.EncodeDecodeAgree :=
  ⟨fun _ => decode_eq_ok_iff.2 rfl, fun _ _ h => decode_eq_ok_iff.1 h⟩

end Sys2Proof.Machine
end

section
/-! SUPPORT. The legal words (30_encoding.md R65 to R67, R69): the listed words are those of the well-formed operations, and a word is illegal by
R67 exactly when the decoder refuses it. -/

namespace Sys2Proof.Machine

/-! The legal width pairs (R66). -/

theorem rescalePairLegal_iff {a b : Width} : rescalePairLegal a b = true ↔
    a = b ∨ b.bits < a.bits ∨ (scaleTable? a b).isSome = true ∨ (a = .w8 ∧ b = .w16) := by
  simp [rescalePairLegal, or_assoc]

theorem rescalePairLegal_eq_false_iff {a b : Width} :
    rescalePairLegal a b = false ↔ (a, b) ∈ [(Width.w2, Width.w3), (Width.w2, Width.w6), (Width.w5, Width.w6)] := by
  cases a <;> cases b <;> decide

/-- The 11 scale tables, in bits as 00_scope.md R10 lists them. -/
theorem slutPairLegal_iff {a b : Width} : slutPairLegal a b = true ↔ (a.bits, b.bits) ∈
    [(2, 5), (2, 8), (2, 16), (3, 5), (3, 6), (3, 8), (3, 16), (5, 8), (5, 16), (6, 8), (6, 16)] := by
  cases a <;> cases b <;> decide

/-- Settles O11: an operation has an instruction exactly when it is well formed, which for a pair of widths is R66. -/
theorem legalWidthPairs : Obligations.LegalWidthPairs := by
  intro a b
  refine ⟨?_, ?_, ?_, ?_, by decide⟩
  · rw [instr?_isSome, Op.wf, rescalePairLegal_iff]
  · rw [← Option.not_isSome_iff_eq_none, instr?_isSome, Bool.not_eq_true, Op.wf, rescalePairLegal_eq_false_iff]
  · rw [instr?_isSome, Op.wf, slutPairLegal_iff]
  · rw [instr?_isSome, Op.wf, slutPairLegal]

/-! The listed words (R65). -/

/-- The four formats, in the order of their codes. -/
def allFormats : List Format := [.narrow8, .mid16, .standard24, .wide48]

/-- The 16 pairs of formats. -/
def formatPairs : List (Format × Format) := allFormats.flatMap fun f => allFormats.map fun g => (f, g)

/-- The well-formed operations, in the order of R65. -/
def legalOps : List Op :=
  List.flatten
    [formatPairs.map fun p => Op.conv p.1 p.2,
      allFormats.map Op.mkraw,
      allFormats.map Op.mknorm,
      (widthPairs.filter fun p => rescalePairLegal p.1 p.2).map fun p => Op.rescale p.1 p.2,
      (widthPairs.filter fun p => slutPairLegal p.1 p.2).map fun p => Op.slut p.1 p.2,
      [Op.gamma8, Op.gamma16],
      (formatPairs.filter fun p => ccDestinationLegal p.2).map fun p => Op.cc p.1 p.2,
      [Op.bgbuild, Op.bgread, Op.stat]]

theorem mem_formatPairs (f g : Format) : (f, g) ∈ formatPairs := by cases f <;> cases g <;> decide

theorem mem_allFormats (f : Format) : f ∈ allFormats := by cases f <;> decide

theorem mem_widthPairs (a b : Width) : (a, b) ∈ widthPairs := by cases a <;> cases b <;> decide

theorem mem_legalOps_iff {o : Op} : o ∈ legalOps ↔ o.wf = true := by
  cases o <;> simp [legalOps, Op.wf, mem_allFormats, mem_formatPairs, mem_widthPairs]

theorem legalWords_eq_map : legalWords = legalOps.map fun o => BitVec.ofNat 16 (encodeOp o) := rfl

theorem legalWords_rising : legalWords.Pairwise (· < ·) := by
  rw [← List.isChain_iff_pairwise]
  decide +kernel

/-- An operation's word decodes to an instruction exactly when the operation is well formed. -/
theorem exists_decode_iff {w : Word} : (∃ i, decode w = .ok i) ↔ ∃ o, o.wf = true ∧ decodeOp w = .ok o := by
  simp only [decode_eq_ok_iff, decodeOp_eq_ok_iff, ← instr?_isSome, Option.isSome_iff_exists, instr?_eq_some_iff]
  exact ⟨fun ⟨i, h⟩ => ⟨i.op, ⟨i, rfl⟩, h⟩, fun ⟨_, ⟨i, rfl⟩, h⟩ => ⟨i, h⟩⟩

theorem mem_legalWords_iff {w : Word} : w ∈ legalWords ↔ ∃ i, decode w = .ok i := by
  rw [exists_decode_iff, legalWords_eq_map, List.mem_map]
  simp only [mem_legalOps_iff, decodeOp_eq_ok_iff]

/-! The illegal words (R67). -/

/-- The word of an operation is illegal exactly when the operation is not well formed. -/
theorem illegalWord_encodeOp (o : Op) : IllegalWord (BitVec.ofNat 16 (encodeOp o)) ↔ o.wf = false := by
  unfold IllegalWord IllegalNumber
  cases o with
  | conv f g | cc f g => cases f <;> cases g <;> decide
  | mkraw f | mknorm f => cases f <;> decide
  | rescale a b | slut a b => cases a <;> cases b <;> decide
  | gamma8 | gamma16 | bgbuild | bgread | stat => decide

section formats

variable {w : Word} {r : Reject}

theorem decodeF2_error {k : Format → Format → Op} (h : decodeF2 k w = .error r) : w.toNat % 256 ≠ 0 := by
  unfold decodeF2 at h
  split at h
  · cases h
  · simpa [field] using ‹¬ field 7 0 w = 0›

theorem decodeF1_error {k : Format → Op} (h : decodeF1 k w = .error r) : w.toNat % 1024 ≠ 0 := by
  unfold decodeF1 at h
  split at h
  · cases h
  · simpa [field] using ‹¬ field 9 0 w = 0›

theorem decodeN_error {o : Op} (h : decodeN o w = .error r) : w.toNat % 4096 ≠ 0 := by
  unfold decodeN at h
  split at h
  · cases h
  · simpa [field] using ‹¬ field 11 0 w = 0›

theorem decodeW2_error {k : Width → Width → Op} (h : decodeW2 k w = .error r) :
    w.toNat % 64 ≠ 0 ∨ 6 ≤ w.toNat / 512 % 8 ∨ 6 ≤ w.toNat / 64 % 8 := by
  by_contra hlow
  simp only [not_or, not_not, not_le] at hlow
  obtain ⟨hzero, ha, hb⟩ := hlow
  obtain ⟨a, ha⟩ := exists_width_code ha
  obtain ⟨b, hb⟩ := exists_width_code hb
  have hfa : widthOfCode? (field 11 9 w) = some a := widthOfCode?_eq_some_iff.2 ha
  have hfb : widthOfCode? (field 8 6 w) = some b := widthOfCode?_eq_some_iff.2 hb
  have hf : field 5 0 w = 0 := by simpa [field] using hzero
  rw [decodeW2, if_pos hf, hfa, hfb] at h
  cases h

end formats

theorem field_opcode (w : Word) : field 15 12 w = w.toNat / 4096 := by
  have := w.isLt
  simp only [field]
  omega

/-- A word that names no operation has a reserved opcode, a 1 in a zero bit or a reserved width code. -/
theorem illegalWord_of_decodeOp_error {w : Word} {r : Reject} (h : decodeOp w = .error r) : IllegalWord w := by
  unfold IllegalWord IllegalNumber
  unfold decodeOp at h
  rw [field_opcode] at h
  split at h
  case h_1 hop | h_8 hop => simp [hop, decodeF2_error h]
  case h_2 hop | h_3 hop => simp [hop, decodeF1_error h]
  case h_4 hop | h_5 hop =>
    rcases decodeW2_error h with hzero | ha | hb
    · simp [hop, hzero]
    · simp [hop, ha]
    · simp [hop, hb]
  case h_6 hop | h_7 hop | h_9 hop | h_10 hop | h_11 hop => simp [hop, decodeN_error h]
  case h_12 =>
    simp only [imp_false] at *
    exact .inl (by omega)

/-- The words that are not illegal are those that decode. -/
theorem not_illegalWord_iff {w : Word} : ¬ IllegalWord w ↔ ∃ i, decode w = .ok i := by
  rw [exists_decode_iff]
  cases hd : decodeOp w with
  | error r => simpa using illegalWord_of_decodeOp_error hd
  | ok o =>
    obtain rfl := decodeOp_eq_ok_iff.1 hd
    simp [illegalWord_encodeOp]

/-- Settles O7: the listed words rise, so no two are equal. -/
theorem legalWordsAre81 : Obligations.LegalWordsAre81 :=
  ⟨rfl, legalWords_rising.imp BitVec.ne_of_lt,
    fun _ => ⟨mem_legalWords_iff, mem_legalWords_iff.trans not_illegalWord_iff.symm⟩⟩

theorem decode_error_iff {w : Word} : (∃ r, decode w = .error r) ↔ IllegalWord w := by
  rw [← not_iff_not, not_illegalWord_iff]
  cases decode w <;> simp

/-- Settles O8: a word the decoder refuses is fetched with its arguments latched and takes the fault. -/
theorem illegalWordsFault : Obligations.IllegalWordsFault := by
  refine fun w => ⟨decode_error_iff, fun s q rest hs hw hq hillegal => ?_⟩
  obtain ⟨r, hr⟩ := decode_error_iff.2 hillegal
  simp only [step, fetch_command hs hq, hw, hr, illegalCommand]

/-! Words written out (R65, R74). -/

/-- Settles O9: each word is the one of the command it is to decode to. -/
theorem sampleWordsDecode : Obligations.SampleWordsDecode := by
  simp only [Obligations.SampleWordsDecode, decode_eq_ok_iff]
  decide

/-- Settles O10: the expansions are the model's, and BGWAIT's bit is bit 0 of the status word. -/
theorem pseudoInstructionsExpand : Obligations.PseudoInstructionsExpand :=
  ⟨fun f => by cases f <;> rfl, rfl, rfl, rfl, rfl, fun f => by cases f <;> rfl, rfl, rfl, rfl, rfl, statusWord_bit_zero⟩

end Sys2Proof.Machine
end

section
/-! SUPPORT. The host's packed pixel words (30_encoding.md R71). -/

namespace Sys2Proof.Machine

/-- A packed word is red, green and blue as the digits of a number, blue in the low bits. -/
theorem pack_eq (p : Pixel) :
    pack p = (p.r.toNat * 2 ^ p.fmt.green.bits + p.g.toNat) * 2 ^ p.fmt.blue.bits + p.b.toNat := by
  rw [pack, pow_add]; ring

/-- A channel masked to its width survives the 16-bit field of a pixel. -/
theorem zext16_mod_toNat (n : Nat) (w : Width) : (zext16 (n % 2 ^ w.bits)).toNat = n % 2 ^ w.bits :=
  zext16_toNat (lt_of_lt_of_le (Nat.mod_lt _ (by positivity)) (width_pow_le w))

theorem unpack_fits (f : Format) (n : Nat) : (unpack f n).fits = true := by
  have h (m : Nat) (w : Width) : m % 2 ^ w.bits < 2 ^ w.bits := Nat.mod_lt _ (by positivity)
  simp only [Pixel.fits_iff, unpack, zext16_mod_toNat]
  exact ⟨h _ _, h _ _, h _ _⟩

theorem pack_unpack {f : Format} {n : Nat} (h : n < 2 ^ packedBits f) : pack (unpack f n) = n := by
  have hred : n / 2 ^ f.blue.bits / 2 ^ f.green.bits < 2 ^ f.red.bits := by
    rw [Nat.div_div_eq_div_mul, Nat.div_lt_iff_lt_mul (by positivity), ← pow_add, ← pow_add]
    rwa [show f.red.bits + (f.blue.bits + f.green.bits) = packedBits f by simp only [packedBits]; omega]
  rw [pack_eq]
  simp only [unpack, zext16_mod_toNat]
  rw [add_comm f.green.bits, pow_add, ← Nat.div_div_eq_div_mul, Nat.mod_eq_of_lt hred, Nat.div_add_mod', Nat.div_add_mod']

/-- The two digits of a packed word: what stands above a channel, and the channel. -/
theorem mul_add_div_mod {q d m : Nat} (h : d < m) : (q * m + d) / m = q ∧ (q * m + d) % m = d :=
  (Nat.div_mod_unique (by omega)).2 ⟨by ring, h⟩

theorem mul_add_lt_mul {q k d m : Nat} (hq : q < k) (hd : d < m) : q * m + d < k * m := by
  rwa [← Nat.div_lt_iff_lt_mul (by omega), (mul_add_div_mod hd).1]

theorem pack_lt {p : Pixel} (h : p.fits = true) : pack p < 2 ^ packedBits p.fmt := by
  obtain ⟨hr, hg, hb⟩ := Pixel.fits_iff.1 h
  rw [pack_eq, packedBits, pow_add, pow_add]
  exact mul_add_lt_mul (mul_add_lt_mul hr hg) hb

theorem unpack_pack {p : Pixel} (h : p.fits = true) : unpack p.fmt (pack p) = p := by
  obtain ⟨hr, hg, hb⟩ := Pixel.fits_iff.1 h
  obtain ⟨hblue, hb⟩ := mul_add_div_mod (q := p.r.toNat * 2 ^ p.fmt.green.bits + p.g.toNat) hb
  obtain ⟨hgreen, hg⟩ := mul_add_div_mod (q := p.r.toNat) hg
  rw [unpack, add_comm p.fmt.green.bits, pow_add, ← Nat.div_div_eq_div_mul, pack_eq, hblue, hgreen, hb, hg, Nat.mod_eq_of_lt hr]
  simp only [zext16_self]

/-- The layouts of R71, in numbers. -/
theorem pack_layout (p : Pixel) :
    (p.fmt = .narrow8 → pack p = p.r.toNat * 2 ^ 5 + p.g.toNat * 2 ^ 2 + p.b.toNat ∧ packedBits p.fmt = 8) ∧
    (p.fmt = .mid16 → pack p = p.r.toNat * 2 ^ 11 + p.g.toNat * 2 ^ 5 + p.b.toNat ∧ packedBits p.fmt = 16) ∧
    (p.fmt = .standard24 → pack p = p.r.toNat * 2 ^ 16 + p.g.toNat * 2 ^ 8 + p.b.toNat ∧ packedBits p.fmt = 24) ∧
    (p.fmt = .wide48 → pack p = p.r.toNat * 2 ^ 32 + p.g.toNat * 2 ^ 16 + p.b.toNat ∧ packedBits p.fmt = 48) := by
  refine ⟨?_, ?_, ?_, ?_⟩ <;> intro hf <;> rw [pack, hf] <;> exact ⟨rfl, rfl⟩

/-- Settles O56: packing and unpacking are the digits of one number, put together and taken apart. -/
theorem packUnpackInverse : Obligations.PackUnpackInverse :=
  ⟨fun f n h => ⟨pack_unpack h, rfl, unpack_fits f n⟩, fun p h => ⟨unpack_pack h, pack_lt h, pack_layout p⟩⟩

end Sys2Proof.Machine
end

section
/-! SUPPORT. Pixel construction (40_construction.md R80 to R91): MKRAW and MKNORM said once for every format, and NORM_PRODUCT's default and
its two end points. -/

namespace Sys2Proof.Machine

/-! MKRAW (R80, R84 to R87). -/

/-- An MKRAW is named by its word and masks `pix_in` to its format. -/
theorem mkraw_command {w : Word} {i : Instr} (f : Format) (hw : encode i = w) (hi : i.op = .mkraw f) :
    decode w = .ok i ∧ ∀ s : State, exec i s = .next (putPix (some (maskPixel f s.issue.pixIn)) s) := by
  refine ⟨decode_eq_ok_iff.2 hw, fun s => ?_⟩
  rw [exec_eq_execOp, hi, execOp, mkraw, pixResult]

/-- The mask of the widest format is the width of the bus, so a raw pixel keeps every bit (R87). -/
theorem maskPixel_wide48 (c : Channels) : maskPixel .wide48 c = { fmt := .wide48, r := c.r, g := c.g, b := c.b } := by
  have hmask (v : Word) : zext16 (v.toNat % 2 ^ Width.w16.bits) = v := by
    rw [Nat.mod_eq_of_lt (show v.toNat < 2 ^ Width.w16.bits from v.isLt), zext16_self]
  simp only [maskPixel, Format.red, Format.green, Format.blue, hmask]

/-- Settles O18: each is the mask to its format, and the mask of wide48 changes nothing. -/
theorem mkrawKeepsLowBits : Obligations.MkrawKeepsLowBits := by
  refine ⟨mkraw_command .narrow8 rfl rfl, mkraw_command .mid16 rfl rfl, mkraw_command .standard24 rfl rfl, ?_⟩
  simpa only [maskPixel_wide48] using mkraw_command (w := 0x1C00) (i := .mkrawWide48) .wide48 rfl rfl

/-! MKNORM (R81, R82, R88 to R91). -/

theorem NormIn.inUnit_iff_inside (n : NormIn) : n.inUnit = true ↔ n.inside := by
  simp only [NormIn.inUnit, NormIn.inside, Bool.and_eq_true, inUnit_iff, and_assoc]

theorem mknorm_of_inside (f : Format) {s : State} (h : s.issue.normIn.inside) :
    mknorm f s = .next (putPix (some (normPixel s.cfg.normProduct f s.issue.normIn)) s) := by
  rw [mknorm, if_pos ((NormIn.inUnit_iff_inside _).2 h), pixResult]

theorem mknorm_of_not_inside (f : Format) {s : State} (h : ¬ s.issue.normIn.inside) :
    mknorm f s = .next (raiseFault .normDomain .pix s) := by
  rw [mknorm, if_neg (mt (NormIn.inUnit_iff_inside _).1 h), pixResult]

/-- An MKNORM is the normalized construction of its format, at that format's widths. -/
theorem mknorm_command {w : Word} {i : Instr} {f : Format} (hw : encode i = w) (hi : i.op = .mknorm f) :
    NormCommand w i f f.red f.green f.blue := by
  have hexec (s : State) : exec i s = mknorm f s := by rw [exec_eq_execOp, hi, execOp]
  refine ⟨decode_eq_ok_iff.2 hw, fun s => ⟨fun hin => ?_, fun hout => ?_⟩⟩
  · rw [hexec, mknorm_of_inside f hin, normPixel]
  · rw [hexec, mknorm_of_not_inside f hout]

/-- Settles O19: each is the normalized construction of its format. -/
theorem mknormTakesProducts : Obligations.MknormTakesProducts :=
  ⟨mknorm_command rfl rfl, mknorm_command rfl rfl, mknorm_command rfl rfl, mknorm_command rfl rfl⟩

/-! NORM_PRODUCT (R83). -/

/-- The quotient of numerator and denominator is the floor of the exact product. -/
theorem exactFloor_eq_floor {x : Rat} (n : Nat) (h : 0 ≤ x) : (exactFloor x n : Int) = ⌊x * ((2 : Rat) ^ n - 1)⌋ := by
  have hnum : ((x.num.toNat : Nat) : Rat) = x.num := by exact_mod_cast Int.toNat_of_nonneg (Rat.num_nonneg.2 h)
  have hone : 1 ≤ 2 ^ n := Nat.one_le_two_pow
  calc (exactFloor x n : Int)
      = ⌊((x.num.toNat * (2 ^ n - 1) : Nat) : Rat) / (x.den : Rat)⌋ := (Rat.floor_natCast_div_natCast _ _).symm
    _ = ⌊(x.num / x.den : Rat) * ((2 : Rat) ^ n - 1)⌋ := by
        rw [Nat.cast_mul, Nat.cast_sub hone, hnum, mul_div_right_comm, Nat.cast_pow, Nat.cast_ofNat, Nat.cast_one]
    _ = ⌊x * ((2 : Rat) ^ n - 1)⌋ := by rw [Rat.num_div_den]

theorem normProduct_zero (p : NormProduct) (w : Width) : normProduct p 0 w = 0 := by
  cases p with
  | exactFloor => simp [normProduct, exactFloor]
  | implementation => simp [normProduct, implementationProduct]

theorem normProduct_one (p : NormProduct) (w : Width) : normProduct p 1 w = 2 ^ w.bits - 1 := by
  cases p with
  | exactFloor => simp [normProduct, exactFloor]
  | implementation => simp [normProduct, implementationProduct]

/-- Settles O20: the default is the exact floor, and every choice keeps the bound and the two end points. -/
theorem normProductLimits : Obligations.NormProductLimits :=
  ⟨fun _ w h0 _ => exactFloor_eq_floor w.bits h0,
    fun p x w h0 h1 => ⟨normProduct_fits p w ((inUnit_iff x).2 ⟨h0, h1⟩), normProduct_zero p w, normProduct_one p w⟩⟩

end Sys2Proof.Machine
end

section
/-! SUPPORT. The scale-table formula (41_conversion.md R106, R107): it is the strict rounding of a quotient, rises from 0 to the full range,
is undone by a right shift, and is what the 11 tables hold. -/

namespace Sys2Proof.Machine

/-! The formula. -/

/-- Rounding to the nearest with an odd divisor never meets a half: twice the quotient is even, its odd multiple is not (R106). -/
theorem round_strict {x d : Nat} (hd : Odd d) :
    2 * x < (2 * ((2 * x + d) / (2 * d)) + 1) * d ∧ 2 * ((2 * x + d) / (2 * d)) * d < 2 * x + d := by
  set e := (2 * x + d) / (2 * d)
  have hfloor : 2 * (e * d) ≤ 2 * x + d := by
    calc 2 * (e * d) = e * (2 * d) := by ring
      _ ≤ 2 * x + d := Nat.div_mul_le_self _ _
  have hceil : 2 * x + d < 2 * (e * d) + 2 * d := by
    calc 2 * x + d < e * (2 * d) + 2 * d := Nat.lt_div_mul_add (by have := hd.pos; omega)
      _ = 2 * (e * d) + 2 * d := by ring
  obtain ⟨k, hk⟩ := hd
  rw [add_mul, mul_assoc]
  omega

theorem scaleFormula_mono (n m : Nat) {i j : Nat} (h : i ≤ j) : scaleFormula n m i ≤ scaleFormula n m j := by
  unfold scaleFormula
  gcongr

section formula

variable {n : Nat} (m : Nat) (hn : 0 < n)
include hn

theorem two_pow_sub_one_pos : 0 < 2 ^ n - 1 := Nat.sub_pos_of_lt (Nat.one_lt_two_pow hn.ne')

theorem scaleFormula_zero : scaleFormula n m 0 = 0 := by
  have := two_pow_sub_one_pos hn
  rw [scaleFormula, Nat.div_eq_of_lt (by omega)]

/-- The greatest source value goes to the greatest destination value (R127). -/
theorem scaleFormula_last : scaleFormula n m (2 ^ n - 1) = 2 ^ m - 1 := by
  have := two_pow_sub_one_pos hn
  rw [scaleFormula, show 2 * (2 ^ n - 1) * (2 ^ m - 1) = (2 ^ m - 1) * (2 * (2 ^ n - 1)) by ring]
  exact (mul_add_div_mod (by omega)).1

theorem scaleFormula_lt {i : Nat} (hi : i < 2 ^ n) : scaleFormula n m i < 2 ^ m := by
  have := (scaleFormula_mono n m (Nat.le_sub_one_of_lt hi)).trans (scaleFormula_last m hn).le
  have := Nat.one_le_two_pow (n := m)
  omega

/-- Shifting the widened value back gives the source value: what the formula adds to `i * 2^(m - n)` is below `2^(m - n)` (R129). -/
theorem scaleFormula_shift_back {m : Nat} (hnm : n ≤ m) {i : Nat} (hi : i < 2 ^ n) : scaleFormula n m i / 2 ^ (m - n) = i := by
  obtain ⟨N, hN⟩ : ∃ N, 2 ^ n = N + 1 := ⟨2 ^ n - 1, by omega⟩
  obtain ⟨K, hK⟩ : ∃ K, 2 ^ (m - n) = K + 1 := ⟨2 ^ (m - n) - 1, by have := Nat.one_le_two_pow (n := m - n); omega⟩
  have hM : 2 ^ m - 1 = N * (K + 1) + K := by
    rw [← Nat.add_sub_cancel' hnm, pow_add, hN, hK, Nat.add_one_mul, ← add_assoc, Nat.add_sub_cancel]
  have hpos := two_pow_sub_one_pos hn
  rw [hN] at hi hpos
  rw [scaleFormula, Nat.div_div_eq_div_mul, hM, hN, hK, Nat.add_sub_cancel,
    show 2 * i * (N * (K + 1) + K) + N = i * (2 * N * (K + 1)) + (2 * (i * K) + N) by ring]
  have hiK : i * K ≤ N * K := Nat.mul_le_mul_right K (by omega)
  exact (mul_add_div_mod (by rw [mul_add, mul_assoc]; omega)).1

end formula

/-! The tables. -/

theorem width_bits_pos (w : Width) : 0 < w.bits := by cases w <;> decide

/-- The contents are the formula, entry for entry. -/
theorem scaleContents_entry {t : ScaleTable} {i : Nat} (hi : i < 2 ^ t.src.bits) :
    scaleContents.entry t i = some (scaleFormula t.src.bits t.dst.bits i) := by
  revert i
  cases t <;> decide +kernel

/-- Settles O24: the entries are the formula, which rounds strictly because `2^n - 1` is odd. -/
theorem scaleTablesFollowFormula : Obligations.ScaleTablesFollowFormula := by
  intro t i hi
  have hodd : Odd (2 ^ t.src.bits - 1) :=
    Nat.Even.sub_odd Nat.one_le_two_pow (even_two.pow_of_ne_zero (width_bits_pos t.src).ne') odd_one
  have hround := round_strict (x := i * (2 ^ t.dst.bits - 1)) hodd
  rw [← mul_assoc] at hround
  exact ⟨_, scaleContents_entry hi, rfl, hround⟩

end Sys2Proof.Machine
end

section
/-! SUPPORT. The rescaler (41_conversion.md R101 to R105), case by case; and with the tables at their contents one function of the two widths
and the value, which rises and which narrowing undoes. -/

namespace Sys2Proof.Machine

/-! The four rules, and the pairs without one. -/

section rules

variable {a b : Width} {v : Nat} {s : State}

theorem rescale_self : rescale a a v s = .ok (zext16 v) := if_pos rfl

theorem rescale_narrow (hab : b.bits < a.bits) : rescale a b v s = .ok (zext16 (v / 2 ^ (a.bits - b.bits))) := by
  have hne : a ≠ b := by rintro rfl; exact lt_irrefl _ hab
  rw [rescale, if_neg hne, if_pos hab, Nat.shiftRight_eq_div_pow]

theorem rescale_replicate : rescale .w8 .w16 v s = .ok (zext16 (v <<< 8 ||| v)) := rfl

theorem rescale_scaleTable (t : ScaleTable) : rescale t.src t.dst v s = memRead (.scale t) v s := by cases t <;> rfl

theorem rescale_entry {t : ScaleTable} (ht : scaleTable? a b = some t) (hv : v < 2 ^ a.bits) :
    ∃ e, s.scale.entry t v = some e ∧ rescale a b v s = .ok (zext16 e) := by
  obtain ⟨rfl, rfl⟩ := scaleTable?_widths ht
  rw [rescale_scaleTable]
  exact memRead_scale hv

theorem rescale_illegal (hab : rescalePairLegal a b = false) : rescale a b v s = .error .illegalCmd := by
  have hrule := mt rescalePairLegal_iff.2 (by rw [hab]; decide)
  simp only [not_or, Bool.not_eq_true, Option.isSome_eq_false_iff, Option.isNone_iff_eq_none] at hrule
  obtain ⟨hself, hnarrow, htable, hbytes⟩ := hrule
  rw [rescale, if_neg hself, if_neg hnarrow, if_neg hbytes, htable]

theorem rescalePairLegal_of_rescale_ok {x : Word} (h : rescale a b v s = .ok x) : rescalePairLegal a b = true := by
  by_contra hab
  rw [rescale_illegal (by simpa using hab)] at h
  cases h

end rules

/-- The byte in both halves of a word is 257 times it (R104). -/
theorem shiftLeft_or_self {v : Nat} (h : v < 256) : v <<< 8 ||| v = 257 * v := by
  rw [← Nat.shiftLeft_add_eq_or_of_lt (show v < 2 ^ 8 from h), Nat.shiftLeft_eq]
  omega

/-- Settles O21: each clause is a rule of the rescaler, and the bound holds on the legal pairs, the only ones that answer. -/
theorem rescaleFunction : Obligations.RescaleFunction := by
  refine fun a b v s hv => ⟨?_, rescale_narrow, ?_, fun t ht => rescale_entry ht hv, ?_, ?_, ?_⟩
  · rintro rfl
    exact rescale_self
  · rintro rfl rfl
    rw [rescale_replicate, shiftLeft_or_self hv]
  · intro hab x hx
    rw [rescale_illegal (rescalePairLegal_eq_false_iff.2 hab)] at hx
    cases hx
  · intro x hx
    obtain ⟨y, hy, hlt⟩ := rescale_ok s (rescalePairLegal_of_rescale_ok hx) hv
    cases hy.symm.trans hx
    exact hlt
  · intro f g c hc
    obtain ⟨p, hp, -⟩ := convLanes_ok s hc
    exact ⟨p, hp⟩

theorem scaleFormula_bytes (v : Nat) : scaleFormula 8 16 v = 257 * v := by
  rw [scaleFormula]
  omega

/-- Settles O27: 257 is the exact quotient of the full ranges of 16 and 8 bits. -/
theorem replicationIsTableRule : Obligations.ReplicationIsTableRule := by
  intro s v hv
  rw [scaleFormula_bytes, rescale_replicate, shiftLeft_or_self hv]
  exact ⟨rfl, rfl, rfl, rfl⟩

/-- Settles O25: the end points of the formula, and of 257 times the byte. -/
theorem scaleFullRange : Obligations.ScaleFullRange := by
  refine ⟨fun t => ⟨?_, ?_⟩, fun s => ⟨rfl, rfl⟩⟩
  · rw [scaleContents_entry (by positivity), scaleFormula_zero _ (width_bits_pos _)]
  · rw [scaleContents_entry (Nat.sub_one_lt (by positivity)), scaleFormula_last _ (width_bits_pos _)]

/-! The rescaler with the tables at their contents (R107). -/

/-- The value of a legal pair: a shift where the destination is not wider, else the formula of R106. -/
def rescaleFormula (a b : Width) (v : Nat) : Nat :=
  if b.bits ≤ a.bits then v / 2 ^ (a.bits - b.bits) else scaleFormula a.bits b.bits v

theorem rescaleFormula_narrow {a b : Width} (hab : b.bits ≤ a.bits) (v : Nat) :
    rescaleFormula a b v = v / 2 ^ (a.bits - b.bits) := if_pos hab

theorem rescaleFormula_widen {a b : Width} (hab : a.bits < b.bits) (v : Nat) :
    rescaleFormula a b v = scaleFormula a.bits b.bits v := if_neg hab.not_ge

theorem rescaleFormula_mono (a b : Width) {v v' : Nat} (h : v ≤ v') : rescaleFormula a b v ≤ rescaleFormula a b v' := by
  rcases le_or_gt b.bits a.bits with hab | hab
  · rw [rescaleFormula_narrow hab, rescaleFormula_narrow hab]
    exact Nat.div_le_div_right h
  · rw [rescaleFormula_widen hab, rescaleFormula_widen hab]
    exact scaleFormula_mono _ _ h

theorem rescaleFormula_lt {a b : Width} {v : Nat} (hv : v < 2 ^ a.bits) : rescaleFormula a b v < 2 ^ b.bits := by
  rcases le_or_gt b.bits a.bits with hab | hab
  · rwa [rescaleFormula_narrow hab, Nat.div_lt_iff_lt_mul (by positivity), ← pow_add, Nat.add_sub_cancel' hab]
  · rw [rescaleFormula_widen hab]
    exact scaleFormula_lt _ (width_bits_pos a) hv

theorem rescaleFormula_roundTrip {a b : Width} (hab : a.bits < b.bits) {v : Nat} (hv : v < 2 ^ a.bits) :
    rescaleFormula b a (rescaleFormula a b v) = v := by
  rw [rescaleFormula_narrow hab.le, rescaleFormula_widen hab]
  exact scaleFormula_shift_back (width_bits_pos a) hab.le hv

theorem scaleTable_widens (t : ScaleTable) : t.src.bits < t.dst.bits := by cases t <;> decide

section contents

variable {a b : Width} {v : Nat} {s : State} (hs : s.scale = scaleContents) (hv : v < 2 ^ a.bits)
include hs hv

/-- With the tables at their contents the rescaler is the formula on every legal pair. -/
theorem rescale_eq_formula (hab : rescalePairLegal a b = true) : rescale a b v s = .ok (zext16 (rescaleFormula a b v)) := by
  rcases rescalePairLegal_iff.1 hab with rfl | hnarrow | htable | ⟨rfl, rfl⟩
  · rw [rescale_self, rescaleFormula_narrow le_rfl, Nat.sub_self, pow_zero, Nat.div_one]
  · rw [rescale_narrow hnarrow, rescaleFormula_narrow hnarrow.le]
  · obtain ⟨t, ht⟩ := Option.isSome_iff_exists.1 htable
    obtain ⟨e, he, hread⟩ := rescale_entry (s := s) ht hv
    obtain ⟨rfl, rfl⟩ := scaleTable?_widths ht
    rw [hs, scaleContents_entry hv] at he
    rw [hread, ← Option.some.inj he, rescaleFormula_widen (scaleTable_widens t)]
  · have hbytes : scaleFormula Width.w8.bits Width.w16.bits v = 257 * v := scaleFormula_bytes v
    rw [rescale_replicate, shiftLeft_or_self hv, rescaleFormula_widen (by decide), hbytes]

theorem toNat_of_rescale_ok {x : Word} (hx : rescale a b v s = .ok x) : x.toNat = rescaleFormula a b v := by
  rw [rescale_eq_formula hs hv (rescalePairLegal_of_rescale_ok hx)] at hx
  rw [← Except.ok.inj hx, zext16_toNat (lt_of_lt_of_le (rescaleFormula_lt hv) (width_pow_le b))]

/-- Widening a channel and narrowing the result gives the channel again (R129). -/
theorem rescale_roundTrip (hwiden : a.bits < b.bits) {x : Word} (hx : rescale a b v s = .ok x) (u : State) :
    rescale b a x.toNat u = .ok (zext16 v) := by
  rw [rescale_narrow hwiden, ← rescaleFormula_narrow hwiden.le, toNat_of_rescale_ok hs hv hx, rescaleFormula_roundTrip hwiden hv]

end contents

theorem rescale_mono {a b : Width} {v v' : Nat} {s : State} {x x' : Word} (hs : s.scale = scaleContents) (hle : v ≤ v')
    (hv' : v' < 2 ^ a.bits) (hx : rescale a b v s = .ok x) (hx' : rescale a b v' s = .ok x') : x.toNat ≤ x'.toNat := by
  rw [toNat_of_rescale_ok hs (hle.trans_lt hv') hx, toNat_of_rescale_ok hs hv' hx']
  exact rescaleFormula_mono a b hle

/-! RESCALE and SLUT (R109, R110). -/

theorem op_wf (i : Instr) : i.op.wf = true := by rw [← instr?_isSome, instr?_op, Option.isSome_some]

/-- Settles O22: an instruction's pair is legal, and on a legal pair the rescaler answers. -/
theorem rescaleCommandRuns : Obligations.RescaleCommandRuns := by
  intro i a b hi
  have hlegal : rescalePairLegal a b = true := by simpa only [hi, Op.wf] using op_wf i
  refine ⟨decode_eq_ok_iff.2 (by rw [encode, hi, encodeOp]), fun s => ⟨fun hin => ?_, fun hout => ?_⟩⟩
  · obtain ⟨x, hx, -⟩ := rescale_ok s hlegal hin
    exact ⟨x, hx, by rw [exec_eq_execOp, hi, execOp, rescaleCommand, if_pos hin, hx, doutResult_ok]⟩
  · rw [exec_eq_execOp, hi, execOp, rescaleCommand, if_neg hout.not_gt, doutResult_error]

/-- Settles O23: an instruction's pair has a scale table, whose index range is the source width's. -/
theorem slutReadsTable : Obligations.SlutReadsTable := by
  intro i a b hi
  have hlegal : (scaleTable? a b).isSome = true := by simpa only [hi, Op.wf, slutPairLegal] using op_wf i
  obtain ⟨t, ht⟩ := Option.isSome_iff_exists.1 hlegal
  have hexec (s : State) : exec i s = scaleRead t s := by rw [exec_eq_execOp, hi, execOp, slutCommand, ht]
  refine ⟨decode_eq_ok_iff.2 (by rw [encode, hi, encodeOp]), t, ht, fun s => ?_⟩
  obtain ⟨rfl, rfl⟩ := scaleTable?_widths ht
  rw [hexec, scaleRead]
  constructor
  · intro hin
    obtain ⟨e, he, hread⟩ := memRead_scale hin
    exact ⟨e, he, by rw [hread, doutResult_ok]⟩
  · intro hout
    rw [memRead_scale_outside hout, doutResult_error]

end Sys2Proof.Machine
end

section
/-! SUPPORT. CONV (41_conversion.md R108, R111 to R126): the lanes of a conversion, the command around them, and the properties of
R128 to R130. -/

namespace Sys2Proof.Machine

/-! Lanes (R108). -/

theorem convLanes_eq_ok_iff {f g : Format} {c : Channels} {s : State} {p : Pixel} : convLanes f g c s = .ok p ↔
    p.fmt = g ∧ rescale f.red g.red c.r.toNat s = .ok p.r ∧ rescale f.green g.green c.g.toNat s = .ok p.g ∧
    rescale f.blue g.blue c.b.toNat s = .ok p.b := by
  obtain ⟨fmt, r, g', b⟩ := p
  unfold convLanes
  cases rescale f.red g.red c.r.toNat s <;> cases rescale f.green g.green c.g.toNat s <;>
    cases rescale f.blue g.blue c.b.toNat s <;> simp [eq_comm]

theorem convLanes_self (f : Format) (c : Channels) (s : State) :
    convLanes f f c s = .ok { fmt := f, r := c.r, g := c.g, b := c.b } := by
  simp only [convLanes_eq_ok_iff, rescale_self, zext16_self, and_self]

/-- A later format is wider in every channel. -/
theorem format_widens {f g : Format} (h : f.code < g.code) :
    f.red.bits < g.red.bits ∧ f.green.bits < g.green.bits ∧ f.blue.bits < g.blue.bits := by
  revert h
  cases f <;> cases g <;> decide

/-- Narrowing on a bus value is a shift of the word. -/
theorem rescale_narrow_word {a b : Width} (hab : b.bits < a.bits) (v : Word) (s : State) :
    rescale a b v.toNat s = .ok (v >>> (a.bits - b.bits)) := by
  rw [rescale_narrow hab, ← Nat.shiftRight_eq_div_pow, ← BitVec.toNat_ushiftRight, zext16_self]

theorem convLanes_narrow {f g : Format} (h : g.code < f.code) (c : Channels) (s : State) :
    convLanes f g c s = .ok
      { fmt := g, r := c.r >>> (f.red.bits - g.red.bits), g := c.g >>> (f.green.bits - g.green.bits),
        b := c.b >>> (f.blue.bits - g.blue.bits) } := by
  obtain ⟨hr, hg, hb⟩ := format_widens h
  exact convLanes_eq_ok_iff.2 ⟨rfl, rescale_narrow_word hr _ s, rescale_narrow_word hg _ s, rescale_narrow_word hb _ s⟩

/-- Byte replication on a bus value is a shift of the word, or'd with it. -/
theorem rescale_replicate_word (v : Word) (s : State) : rescale .w8 .w16 v.toNat s = .ok (v <<< 8 ||| v) := by
  have hshift : BitVec.ofNat 16 (v.toNat <<< 8) = v <<< 8 := rfl
  rw [rescale_replicate, zext16, BitVec.ofNat_or, hshift, BitVec.ofNat_toNat, BitVec.setWidth_eq]

theorem convLanes_replicate (c : Channels) (s : State) : convLanes .standard24 .wide48 c s =
    .ok { fmt := .wide48, r := c.r <<< 8 ||| c.r, g := c.g <<< 8 ||| c.g, b := c.b <<< 8 ||| c.b } :=
  convLanes_eq_ok_iff.2 ⟨rfl, rescale_replicate_word _ s, rescale_replicate_word _ s, rescale_replicate_word _ s⟩

/-! The command. -/

section command

variable {w : Word} {i : Instr} {f g : Format}

theorem exec_conv_ok {s : State} {p : Pixel} (hi : i.op = .conv f g) (hfits : s.issue.pixIn.fits f = true)
    (hp : convLanes f g s.issue.pixIn s = .ok p) : exec i s = .next (putPix (some p) s) := by
  rw [exec_eq_execOp, hi, execOp, convert, if_pos hfits, hp, pixResult_ok]

theorem exec_conv_outside {s : State} (hi : i.op = .conv f g) (hfits : ¬ s.issue.pixIn.fits f = true) :
    exec i s = .next (raiseFault .chanRange .pix s) := by
  rw [exec_eq_execOp, hi, execOp, convert, if_neg hfits, pixResult_error]

variable {dom : Channels → Prop} {res : Channels → Pixel} {tr tg tb : ScaleTable}
  (hw : encode i = w) (hi : i.op = .conv f g) (hdom : ∀ c : Channels, c.fits f = true ↔ dom c)
include hw hi hdom

/-- A conversion whose lanes look at nothing but the pixel. -/
theorem conv_command (hres : ∀ c s, convLanes f g c s = .ok (res c)) : PixCommand w i dom res :=
  ⟨decode_eq_ok_iff.2 hw, fun s => ⟨fun hin => exec_conv_ok hi ((hdom _).2 hin) (hres _ s),
    fun hout => exec_conv_outside hi (mt (hdom _).1 hout)⟩⟩

/-- A conversion whose lanes are read from the tables of its width pairs. -/
theorem conv_tableCommand (hr : scaleTable? f.red g.red = some tr) (hg : scaleTable? f.green g.green = some tg)
    (hb : scaleTable? f.blue g.blue = some tb) : TableCommand w i dom g tr tg tb := by
  refine ⟨decode_eq_ok_iff.2 hw, fun s => ⟨fun hin => ?_, fun hout => exec_conv_outside hi (mt (hdom _).1 hout)⟩⟩
  have hfits := (hdom _).2 hin
  obtain ⟨hrfits, hgfits, hbfits⟩ := Channels.fits_iff.1 hfits
  obtain ⟨r, hr, hrlane⟩ := rescale_entry (s := s) hr hrfits
  obtain ⟨g', hg, hglane⟩ := rescale_entry (s := s) hg hgfits
  obtain ⟨b, hb, hblane⟩ := rescale_entry (s := s) hb hbfits
  exact ⟨r, g', b, hr, hg, hb, exec_conv_ok hi hfits (convLanes_eq_ok_iff.2 ⟨rfl, hrlane, hglane, hblane⟩)⟩

end command

theorem fits_narrow8_iff (c : Channels) : c.fits .narrow8 = true ↔ c.below 8 8 4 := Channels.fits_iff

theorem fits_mid16_iff (c : Channels) : c.fits .mid16 = true ↔ c.below 32 64 32 := Channels.fits_iff

theorem fits_standard24_iff (c : Channels) : c.fits .standard24 = true ↔ c.below 256 256 256 := Channels.fits_iff

/-- Every bus value is a channel of the widest format (R126). -/
theorem fits_wide48_iff (c : Channels) : c.fits .wide48 = true ↔ True :=
  iff_true_intro (Channels.fits_iff.2 ⟨c.r.isLt, c.g.isLt, c.b.isLt⟩)

/-- Settles O28: the lanes of a conversion to the same format are the channels. -/
theorem convIdentityCopies : Obligations.ConvIdentityCopies :=
  ⟨conv_command rfl rfl fits_narrow8_iff (convLanes_self _), conv_command rfl rfl fits_mid16_iff (convLanes_self _),
    conv_command rfl rfl fits_standard24_iff (convLanes_self _), conv_command rfl rfl fits_wide48_iff (convLanes_self _)⟩

/-- Settles O29: the destination's code is the smaller one, so every lane is a shift by the difference of its widths. -/
theorem convNarrowingShifts : Obligations.ConvNarrowingShifts :=
  ⟨conv_command rfl rfl fits_mid16_iff (convLanes_narrow (by decide)),
    conv_command rfl rfl fits_standard24_iff (convLanes_narrow (by decide)),
    conv_command rfl rfl fits_standard24_iff (convLanes_narrow (by decide)),
    conv_command rfl rfl fits_wide48_iff (convLanes_narrow (by decide)),
    conv_command rfl rfl fits_wide48_iff (convLanes_narrow (by decide)),
    conv_command rfl rfl fits_wide48_iff (convLanes_narrow (by decide))⟩

/-- Settles O30: the tables are those of the lanes' width pairs. -/
theorem convWideningReadsTables : Obligations.ConvWideningReadsTables :=
  ⟨conv_tableCommand rfl rfl fits_narrow8_iff rfl rfl rfl, conv_tableCommand rfl rfl fits_narrow8_iff rfl rfl rfl,
    conv_tableCommand rfl rfl fits_narrow8_iff rfl rfl rfl, conv_tableCommand rfl rfl fits_mid16_iff rfl rfl rfl,
    conv_tableCommand rfl rfl fits_mid16_iff rfl rfl rfl⟩

/-- Settles O31: all three lanes are 8 to 16 bits. -/
theorem convReplicatesBytes : Obligations.ConvReplicatesBytes := conv_command rfl rfl fits_standard24_iff convLanes_replicate

/-! Properties (R128 to R130). -/

/-- Settles O26: a lane is the rescaler on its channel. -/
theorem rescaleMonotone : Obligations.RescaleMonotone := by
  refine fun s hs => ⟨fun a b v v' x x' => rescale_mono hs, fun f g c c' p p' hfits hr hg hb hp hp' => ?_⟩
  obtain ⟨hrfits, hgfits, hbfits⟩ := Channels.fits_iff.1 hfits
  obtain ⟨-, hpr, hpg, hpb⟩ := convLanes_eq_ok_iff.1 hp
  obtain ⟨-, hpr', hpg', hpb'⟩ := convLanes_eq_ok_iff.1 hp'
  exact ⟨rescale_mono hs hr hrfits hpr hpr', rescale_mono hs hg hgfits hpg hpg', rescale_mono hs hb hbfits hpb hpb'⟩

/-- The lanes of a widened pixel narrow to the pixel's channels. -/
theorem convLanes_roundTrip {f g : Format} (h : f.code < g.code) {c : Channels} {s : State} {p : Pixel} (hs : s.scale = scaleContents)
    (hfits : c.fits f = true) (hp : convLanes f g c s = .ok p) (u : State) :
    convLanes g f p.channels u = .ok { fmt := f, r := c.r, g := c.g, b := c.b } := by
  obtain ⟨hr, hg, hb⟩ := format_widens h
  obtain ⟨hrfits, hgfits, hbfits⟩ := Channels.fits_iff.1 hfits
  obtain ⟨-, hpr, hpg, hpb⟩ := convLanes_eq_ok_iff.1 hp
  simp only [convLanes_eq_ok_iff, Pixel.channels, rescale_roundTrip hs hrfits hr hpr u, rescale_roundTrip hs hgfits hg hpg u,
    rescale_roundTrip hs hbfits hb hpb u, zext16_self, and_self]

/-- Settles O32: a pixel of the narrower format has lanes in the wider one, which narrow back to it. -/
theorem widenNarrowRoundTrip : Obligations.WidenNarrowRoundTrip := by
  intro f g i j hcode hi hj s c hs hfits
  obtain ⟨p, hp, hfmt, hpfits⟩ := convLanes_ok (g := g) (presentPix c s) hfits
  rw [Pixel.fits, hfmt] at hpfits
  exact ⟨p, exec_conv_ok hi hfits hp, exec_conv_ok hj hpfits (convLanes_roundTrip hcode hs hfits hp _)⟩

/-- Settles O33: the first pixel is shifted, and the second read from tables that hold the formula. -/
theorem boundedLossScenario : Obligations.BoundedLossScenario := by
  intro s hs
  have hlanes (u : State) : convLanes .standard24 .mid16 { r := 255, g := 128, b := 0 } u =
      .ok { fmt := .mid16, r := 31, g := 32, b := 0 } := convLanes_narrow (by decide) _ u
  have hback (u : State) (hu : u.scale = scaleContents) : convLanes .mid16 .standard24 { r := 31, g := 32, b := 0 } u =
      .ok { fmt := .standard24, r := 255, g := 130, b := 0 } :=
    convLanes_eq_ok_iff.2 ⟨rfl, rescale_eq_formula hu (by decide) rfl, rescale_eq_formula hu (by decide) rfl,
      rescale_eq_formula hu (by decide) rfl⟩
  exact ⟨exec_conv_ok rfl rfl (hlanes _), exec_conv_ok rfl rfl (hback _ hs), by decide⟩

end Sys2Proof.Machine
end

section
/-! SUPPORT. The gamma commands and colour correction (42_gamma.md R141 to R148): what the table limits say of an entry read at a bus value,
the pixel of three entries that CC drives, and its properties. -/

namespace Sys2Proof.Machine

/-! Entries within the limits (R141, R142). -/

section entries

variable {v v' : Word}

theorem gamma8_entry_zero {g : Vector (BitVec 8) 256} (h : Gamma8Ok g) (hv : v = 0) (hlt : v.toNat < 256) : g[v.toNat] = 0#8 := by
  subst hv
  exact BitVec.eq_of_toNat_eq h.1

variable {g : Vector (BitVec 16) 256} (h : Gamma16Ok g)
include h

theorem gamma16_entry_zero (hv : v = 0) (hlt : v.toNat < 256) : g[v.toNat] = 0#16 := by
  subst hv
  exact BitVec.eq_of_toNat_eq h.1

theorem gamma16_entry_last (hv : v = 255) (hlt : v.toNat < 256) : g[v.toNat] = 65535#16 := by
  subst hv
  exact BitVec.eq_of_toNat_eq h.2.1

/-- A lane of a colour correction rises with its channel, whatever the shift (R148). -/
theorem gamma16_shifted_mono (n : Nat) (hlt : v.toNat < 256) (hlt' : v'.toNat < 256) (hle : v.toNat ≤ v'.toNat) :
    (g[v.toNat] >>> n).toNat ≤ (g[v'.toNat] >>> n).toNat := by
  obtain ⟨-, -, hrise⟩ := h
  have hentry : g[v.toNat].toNat ≤ g[v'.toNat].toNat := hrise ⟨_, hlt⟩ ⟨_, hlt'⟩ hle
  simp only [BitVec.toNat_ushiftRight, Nat.shiftRight_eq_div_pow]
  exact Nat.div_le_div_right hentry

end entries

/-! GAMMA8 and GAMMA16 (R143, R144). -/

theorem exec_gamma8_inside {s : State} (h : s.issue.din.toNat < 256) :
    exec .gamma8 s = .next (putDout (some (zext16 s.gamma8[s.issue.din.toNat].toNat)) s) := by
  rw [exec_eq_execOp, Instr.op, execOp, execGamma8, memRead_gamma8 h, doutResult_ok, zext16, BitVec.ofNat_toNat]

theorem exec_gamma16_inside {s : State} (h : s.issue.din.toNat < 256) :
    exec .gamma16 s = .next (putDout (some s.gamma16[s.issue.din.toNat]) s) := by
  rw [exec_eq_execOp, Instr.op, execOp, execGamma16, memRead_gamma16 h, doutResult_ok]

theorem exec_gamma8_outside {s : State} (h : 255 < s.issue.din.toNat) : exec .gamma8 s = .next (raiseFault .chanRange .dout s) := by
  rw [exec_eq_execOp, Instr.op, execOp, execGamma8, memRead_gamma8_outside h, doutResult_error]

theorem exec_gamma16_outside {s : State} (h : 255 < s.issue.din.toNat) : exec .gamma16 s = .next (raiseFault .chanRange .dout s) := by
  rw [exec_eq_execOp, Instr.op, execOp, execGamma16, memRead_gamma16_outside h, doutResult_error]

/-- Settles O35: each command is its table's read, and the limits say what stands at the ends. -/
theorem gammaCommandsRead : Obligations.GammaCommandsRead := by
  refine ⟨decode_eq_ok_iff.2 rfl, decode_eq_ok_iff.2 rfl, fun s =>
    ⟨fun hin => ⟨exec_gamma8_inside hin, exec_gamma16_inside hin, fun h8 => ?_, fun h8 h0 => ?_, fun h16 h0 => ?_, fun h16 hlast => ?_⟩,
      fun hout => ⟨exec_gamma8_outside hout, exec_gamma16_outside hout⟩⟩⟩
  · obtain ⟨-, hle, -⟩ := h8
    exact hle ⟨_, hin⟩
  · rw [exec_gamma8_inside hin, gamma8_entry_zero h8 h0 hin]; rfl
  · rw [exec_gamma16_inside hin, gamma16_entry_zero h16 h0 hin]; rfl
  · rw [exec_gamma16_inside hin, gamma16_entry_last h16 hlast hin]; rfl

/-! CC of a standard24 pixel (R145, R146). -/

/-- The pixel of the three channels' entries, each shifted right: what CC drives for a standard24 pixel (`colorCorrect_inside`). -/
def gammaPixel (dst : Format) (n : Nat) (g : Vector (BitVec 16) 256) (c : Channels) (h : c.below 256 256 256) : Pixel :=
  { fmt := dst, r := g[c.r.toNat]'h.1 >>> n, g := g[c.g.toNat]'h.2.1 >>> n, b := g[c.b.toNat]'h.2.2 >>> n }

theorem colorLanes_inside (dst : Format) (n : Nat) {c : Channels} (h : c.below 256 256 256) (s : State) :
    colorLanes dst n c s = .ok (gammaPixel dst n s.gamma16 c h) := by
  obtain ⟨hr, hg, hb⟩ := h
  simp only [colorLanes, memRead_gamma16 hr, memRead_gamma16 hg, memRead_gamma16 hb, gammaPixel]

theorem colorCorrect_inside (dst : Format) (n : Nat) {s : State} (h : s.issue.pixIn.below 256 256 256) :
    colorCorrect dst n s = .next (putPix (some (gammaPixel dst n s.gamma16 s.issue.pixIn h)) s) := by
  rw [colorCorrect, if_pos ((fits_standard24_iff _).2 h), colorLanes_inside dst n h, pixResult_ok]

theorem colorCorrect_outside (dst : Format) (n : Nat) {s : State} (h : ¬ s.issue.pixIn.below 256 256 256) :
    colorCorrect dst n s = .next (raiseFault .chanRange .pix s) := by
  rw [colorCorrect, if_neg (mt (fits_standard24_iff _).1 h), pixResult_error]

theorem exec_ccStandard24Standard24 (s : State) : exec .ccStandard24Standard24 s = colorCorrect .standard24 8 s := exec_eq_execOp _ s

theorem exec_ccStandard24Wide48 (s : State) : exec .ccStandard24Wide48 s = colorCorrect .wide48 0 s := exec_eq_execOp _ s

/-- A shift by 0 is none: to wide48 the lanes are the entries themselves (R146). -/
theorem gammaPixel_unshifted (dst : Format) (g : Vector (BitVec 16) 256) {c : Channels} (h : c.below 256 256 256) :
    gammaPixel dst 0 g c h = { fmt := dst, r := g[c.r.toNat]'h.1, g := g[c.g.toNat]'h.2.1, b := g[c.b.toNat]'h.2.2 } := by
  simp only [gammaPixel, BitVec.ushiftRight_zero]

/-- Settles O36: both commands are the correction of a standard24 pixel, with a shift by 8 and by 0. -/
theorem colorCorrectionLooksUp : Obligations.ColorCorrectionLooksUp := by
  refine ⟨decode_eq_ok_iff.2 rfl, decode_eq_ok_iff.2 rfl, fun s => ⟨fun hr hg hb => ?_, fun hout => ?_⟩⟩
  · have h : s.issue.pixIn.below 256 256 256 := ⟨hr, hg, hb⟩
    rw [exec_ccStandard24Standard24, exec_ccStandard24Wide48, colorCorrect_inside _ _ h, colorCorrect_inside _ _ h,
      gammaPixel_unshifted, gammaPixel]
    exact ⟨rfl, rfl⟩
  · rw [exec_ccStandard24Standard24, exec_ccStandard24Wide48]
    exact ⟨colorCorrect_outside _ _ hout, colorCorrect_outside _ _ hout⟩

/-! Properties of the corrected pixel (R148). -/

/-- A pixel presented within standard24 is corrected to its entries. -/
theorem colorCorrect_presentPix (dst : Format) (n : Nat) {c : Channels} (h : c.below 256 256 256) (s : State) :
    colorCorrect dst n (presentPix c s) = .next (putPix (some (gammaPixel dst n s.gamma16 c h)) (presentPix c s)) :=
  colorCorrect_inside dst n (s := presentPix c s) h

theorem gammaPixel_lanesRise {g : Vector (BitVec 16) 256} (hg : Gamma16Ok g) (dst : Format) (n : Nat) {c c' : Channels}
    (h : c.below 256 256 256) (h' : c'.below 256 256 256) : LanesRise c c' (gammaPixel dst n g c h) (gammaPixel dst n g c' h') :=
  ⟨gamma16_shifted_mono hg n _ _, gamma16_shifted_mono hg n _ _, gamma16_shifted_mono hg n _ _⟩

/-- Narrowing the entries is the shift of the correction to standard24. -/
theorem convLanes_gammaPixel (g : Vector (BitVec 16) 256) {c : Channels} (h : c.below 256 256 256) (u : State) :
    convLanes .wide48 .standard24 (gammaPixel .wide48 0 g c h).channels u = .ok (gammaPixel .standard24 8 g c h) := by
  rw [convLanes_narrow (by decide), gammaPixel_unshifted]
  rfl

theorem gammaPixel_zero {g : Vector (BitVec 16) 256} (hg : Gamma16Ok g) (dst : Format) (n : Nat)
    (h : Channels.below 256 256 256 { r := 0, g := 0, b := 0 }) :
    gammaPixel dst n g { r := 0, g := 0, b := 0 } h = { fmt := dst, r := 0, g := 0, b := 0 } := by
  simp only [gammaPixel, gamma16_entry_zero hg rfl, BitVec.zero_ushiftRight]
  rfl

theorem gammaPixel_last {g : Vector (BitVec 16) 256} (hg : Gamma16Ok g) (dst : Format) (n : Nat)
    (h : Channels.below 256 256 256 { r := 255, g := 255, b := 255 }) :
    gammaPixel dst n g { r := 255, g := 255, b := 255 } h =
      { fmt := dst, r := 65535#16 >>> n, g := 65535#16 >>> n, b := 65535#16 >>> n } := by
  simp only [gammaPixel, gamma16_entry_last hg rfl]

/-- Settles O37: the lanes are entries of a table that rises from 0 to 65535, and the shift of the one correction is the narrowing of the
other. -/
theorem colorCorrectionProperties : Obligations.ColorCorrectionProperties := by
  refine fun s hs => ⟨fun i c c' hi hfits hfits' => ?_, fun c hfits => ?_, ?_, ?_⟩
  · have h := (fits_standard24_iff c).1 hfits
    have h' := (fits_standard24_iff c').1 hfits'
    obtain ⟨dst, n, hexec⟩ : ∃ dst n, ∀ u, exec i u = colorCorrect dst n u := by
      rcases hi with rfl | rfl
      · exact ⟨_, _, exec_ccStandard24Standard24⟩
      · exact ⟨_, _, exec_ccStandard24Wide48⟩
    exact ⟨_, _, (hexec _).trans (colorCorrect_presentPix dst n h s), (hexec _).trans (colorCorrect_presentPix dst n h' s),
      gammaPixel_lanesRise hs dst n h h'⟩
  · have h := (fits_standard24_iff c).1 hfits
    exact ⟨_, _, (exec_ccStandard24Wide48 _).trans (colorCorrect_presentPix _ _ h s),
      exec_conv_ok rfl ((fits_wide48_iff _).2 trivial) (convLanes_gammaPixel s.gamma16 h _),
      (exec_ccStandard24Standard24 _).trans (colorCorrect_presentPix _ _ h s)⟩
  · rintro c rfl
    have h : Channels.below 256 256 256 { r := 0, g := 0, b := 0 } := (fits_standard24_iff _).1 rfl
    rw [exec_ccStandard24Standard24, exec_ccStandard24Wide48]
    simp only [colorCorrect_presentPix _ _ h, gammaPixel_zero hs, and_self]
  · rintro c rfl
    have h : Channels.below 256 256 256 { r := 255, g := 255, b := 255 } := (fits_standard24_iff _).1 rfl
    rw [exec_ccStandard24Standard24, exec_ccStandard24Wide48]
    simp only [colorCorrect_presentPix _ _ h, gammaPixel_last hs]
    exact ⟨rfl, rfl⟩

/-! CC of any other format (R147). -/

theorem colorReject_faults (s : State) : colorReject s = .next (raiseFault .ccDomain .pix s) := by
  rw [colorReject, pixResult_error]

/-- A legal correction whose source is not standard24 looks at nothing. -/
theorem exec_cc_rejects {i : Instr} {f g : Format} (hi : i.op = .cc f g) (hf : f ≠ .standard24) (s : State) :
    exec i s = .next (raiseFault .ccDomain .pix s) := by
  rw [exec_eq_execOp, hi, ← colorReject_faults]
  cases f with
  | standard24 => exact absurd rfl hf
  | narrow8 | mid16 | wide48 => rfl

/-- Settles O38: the source of none of the six is standard24. -/
theorem colorRejectionFaults : Obligations.ColorRejectionFaults := by
  refine ⟨by decide, fun s => ?_⟩
  exact ⟨exec_cc_rejects rfl (by decide) s, exec_cc_rejects rfl (by decide) s, exec_cc_rejects rfl (by decide) s,
    exec_cc_rejects rfl (by decide) s, exec_cc_rejects rfl (by decide) s, exec_cc_rejects rfl (by decide) s⟩

end Sys2Proof.Machine
end

section
/-! SUPPORT. The dimming formula (43_background.md R160, R168): the quotient it is, its order in both arguments and its bounds. -/

namespace Sys2Proof.Machine

/-- The product of R160 needs 24 bits. -/
theorem gamma_mul_bright_lt (g : Word) (b : Byte) : g.toNat * b.toNat < 2 ^ 24 :=
  calc g.toNat * b.toNat < 2 ^ 16 * 2 ^ 8 := Nat.mul_lt_mul'' g.isLt b.isLt
    _ = 2 ^ 24 := by norm_num

theorem bgval_toNat (g : Word) (b : Byte) : (bgval g b).toNat = g.toNat * b.toNat / 256 := by
  have hlt := gamma_mul_bright_lt g b
  rw [bgval, zext16_toNat (by omega), Nat.shiftRight_eq_div_pow]

theorem bgval_mono {g g' : Word} {b b' : Byte} (hg : g.toNat ≤ g'.toNat) (hb : b.toNat ≤ b'.toNat) :
    (bgval g b).toNat ≤ (bgval g' b').toNat := by
  rw [bgval_toNat, bgval_toNat]
  exact Nat.div_le_div_right (Nat.mul_le_mul hg hb)

/-- No entry is brighter than the formula at the greatest gamma entry and the greatest brightness. -/
theorem bgval_le_greatest (g : Word) (b : Byte) : (bgval g b).toNat ≤ 65279 :=
  bgval_mono (g' := 65535) (b' := 255) (Nat.le_of_lt_succ g.isLt) (Nat.le_of_lt_succ b.isLt)

theorem bgval_le_gamma (g : Word) (b : Byte) : (bgval g b).toNat ≤ g.toNat := by
  rw [bgval_toNat]
  exact Nat.div_le_of_le_mul (by rw [Nat.mul_comm]; exact Nat.mul_le_mul_right _ b.isLt.le)

theorem bgval_zero_bright (g : Word) : bgval g 0 = 0 := BitVec.eq_of_toNat_eq (by simp [bgval_toNat])

/-- Settles O39: the formula is a quotient that rises in both arguments, and the table's limits give its ends. -/
theorem dimmingFormula : Obligations.DimmingFormula := by
  refine ⟨fun g b => ⟨bgval_toNat g b, gamma_mul_bright_lt g b, bgval_le_greatest g b⟩, fun s hs b b' => ?_⟩
  obtain ⟨hzero, hlast, hrise⟩ := hs
  refine ⟨?_, ?_, fun i => ⟨bgval_le_gamma _ b, ?_⟩, fun i j hij => bgval_mono (hrise i j hij) le_rfl,
    fun hb i => bgval_mono le_rfl hb⟩
  · rw [bgEntry, bgval_toNat, hzero, Nat.zero_mul, Nat.zero_div]
  · rw [bgEntry, bgval_toNat, hlast]
  · have hle := bgval_le_greatest s.gamma16[i] b
    rw [bgEntry]
    omega

end Sys2Proof.Machine
end

section
/-! SUPPORT. BGBUILD and BGREAD (43_background.md R162, R166, R167), each case by case. -/

namespace Sys2Proof.Machine

/-! BGBUILD (R162). -/

theorem exec_bgbuild_idle {s : State} (hidle : s.bgBusy = false) (hdin : s.issue.din.toNat ≤ 255) :
    exec .bgbuild s = .next (startBuild (BitVec.ofNat 8 s.issue.din.toNat) s) := by
  rw [exec_eq_execOp, Instr.op, execOp, execBgbuild, hidle, if_neg Bool.false_ne_true, if_neg (by omega)]

theorem exec_bgbuild_busy {s : State} (hbusy : s.bgBusy = true) : exec .bgbuild s = .next (raiseFault .bgBusy .neither s) := by
  rw [exec_eq_execOp, Instr.op, execOp, execBgbuild, if_pos hbusy]

theorem exec_bgbuild_outside {s : State} (hidle : s.bgBusy = false) (hdin : 255 < s.issue.din.toNat) :
    exec .bgbuild s = .next (raiseFault .brightRange .neither s) := by
  rw [exec_eq_execOp, Instr.op, execOp, execBgbuild, hidle, if_neg Bool.false_ne_true, if_pos hdin]

/-- Settles O40: the three cases of BGBUILD, and a fault without a target bus touches FAULT and CAUSE only. -/
theorem bgbuildStartsBuild : Obligations.BgbuildStartsBuild := by
  refine ⟨decode_eq_ok_iff.2 rfl, fun s => ⟨fun hidle hdin => ⟨_, _, exec_bgbuild_idle hidle hdin, ?_, rfl⟩, mem_allIndices,
    exec_bgbuild_busy, exec_bgbuild_outside, fun c => ?_⟩⟩
  · rw [BitVec.toNat_ofNat, Nat.mod_eq_of_lt (by omega)]
  · simp

/-! BGREAD (R166). -/

theorem exec_bgread_written {s : State} {v : Word} (hdin : s.issue.din.toNat < 256)
    (hv : s.bglut.read s.issue.din.toNat = some v) : exec .bgread s = .next (putDout (some v) s) := by
  rw [exec_eq_execOp, Instr.op, execOp, execBgread, memRead_bglut_written hdin hv, doutResult_ok]

theorem exec_bgread_unwritten {s : State} (hdin : s.issue.din.toNat < 256) (hv : s.bglut.read s.issue.din.toNat = none) :
    exec .bgread s = .next (raiseFault .bgUnwritten .dout s) := by
  rw [exec_eq_execOp, Instr.op, execOp, execBgread, memRead_bglut_unwritten hdin hv, doutResult_error]

theorem exec_bgread_outside {s : State} (hdin : 255 < s.issue.din.toNat) :
    exec .bgread s = .next (raiseFault .chanRange .dout s) := by
  rw [exec_eq_execOp, Instr.op, execOp, execBgread, memRead_bglut_outside hdin, doutResult_error]

/-- Settles O46: BGREAD is the read of BGLUT in each of its three cases. -/
theorem bgreadReadsEntry : Obligations.BgreadReadsEntry :=
  ⟨decode_eq_ok_iff.2 rfl, fun _ => ⟨fun _ hdin => exec_bgread_written (Nat.lt_succ_of_le hdin),
    fun hdin => exec_bgread_unwritten (Nat.lt_succ_of_le hdin), exec_bgread_outside⟩⟩

/-- Settles O47: with no build running the invariant says what every entry holds. -/
theorem bgreadAfterBuild : Obligations.BgreadAfterBuild := by
  intro s b i hinv hidle hb hdin
  obtain ⟨-, htable⟩ := hinv.table_complete hidle hb
  refine ⟨exec_bgread_written (by omega) (hdin ▸ htable i), ?_, ?_⟩
  · rintro rfl
    exact bgval_zero_bright _
  · rintro rfl
    exact bgval_toNat _ 255

end Sys2Proof.Machine
end

section
/-! SUPPORT. One step of the build agent (43_background.md R163, R164; log 5, log 6): idle, one entry, or the whole table. -/

namespace Sys2Proof.Machine

section agent

variable {s : State} {b : Byte} {k : Nat}

theorem agentStep_idle (hidle : s.bgBusy = false) : agentStep k s = .ok s := by
  rw [agentStep, hidle, if_neg Bool.false_ne_true]

variable (hbusy : s.bgBusy = true) (hb : s.bgBright = some b)
include hbusy hb

theorem agentStep_swap (hswap : s.cfg.bgAtomicSwap = true) : agentStep k s = .ok (swapTable b s) := by
  simp only [agentStep, hbusy, hb, hswap, if_true]

theorem agentStep_entry {i : Fin 256} (hswap : s.cfg.bgAtomicSwap = false) (hi : choosePending s.bgPending k = some i) :
    agentStep k s = .ok (writeEntry i b s) := by
  simp only [agentStep, hbusy, hb, hswap, hi, if_true, Bool.false_eq_true, if_false]

/-- While anything is pending, whatever the pick, the step is one entry of the build. -/
theorem exists_agentStep_entry (hswap : s.cfg.bgAtomicSwap = false) (hne : s.bgPending ≠ []) :
    ∃ i ∈ s.bgPending, agentStep k s = .ok (writeEntry i b s) := by
  obtain ⟨i, hi⟩ := choosePending_of_ne_nil k hne
  exact ⟨i, choosePending_mem hi, agentStep_entry hbusy hb hswap hi⟩

end agent

theorem writeEntry_read_self (i : Fin 256) (b : Byte) (s : State) :
    (writeEntry i b s).bglut.read i.val = some (bgEntry s i b) := by
  rw [writeEntry_bglut, Memory.read_write_self]

/-- During a build, `bg_busy` after an entry says whether anything is left. -/
theorem writeEntry_busy_eq {s : State} (i : Fin 256) (b : Byte) (hbusy : s.bgBusy = true) :
    (writeEntry i b s).bgBusy = !(writeEntry i b s).bgPending.isEmpty := by
  rw [Bool.eq_iff_iff, writeEntry_busy_iff i b hbusy]
  simp

/-- Settles O41: the step is one `writeEntry`, and any pending index is some pick's. -/
theorem agentWritesOneEntry : Obligations.AgentWritesOneEntry := by
  refine ⟨fun k s b hbusy hb hswap hne => ?_, fun s b i hbusy hb hswap hi => ?_, fun k s hidle => agentStep_idle hidle⟩
  · obtain ⟨i, hi, hstep⟩ := exists_agentStep_entry (k := k) hbusy hb hswap hne
    exact ⟨i, _, hi, hstep, writeEntry_read_self i b s, fun j hj => Memory.read_write_other _ _ hj.symm, rfl,
      writeEntry_busy_eq i b hbusy, rfl, rfl, rfl, rfl, rfl, rfl, rfl, rfl, rfl, rfl⟩
  · obtain ⟨k, hk⟩ := choosePending_any hi
    exact ⟨k, _, agentStep_entry hbusy hb hswap hk, rfl, writeEntry_read_self i b s⟩

/-- The one-step build writes inside BGLUT's 256 indices only. -/
theorem swapTable_read_outside (b : Byte) (s : State) {j : Nat} (hj : 255 < j) : (swapTable b s).bglut.read j = s.bglut.read j := by
  rw [swapTable_bglut, read_writeAll, dif_neg (by omega)]

/-- Settles O42: the step is `swapTable`. -/
theorem atomicSwapWritesAll : Obligations.AtomicSwapWritesAll :=
  fun _ s b hbusy hb hswap => ⟨_, agentStep_swap hbusy hb hswap, swapTable_table s b, fun _ => swapTable_read_outside b s,
    rfl, rfl, rfl, rfl, rfl, rfl, rfl, rfl, rfl, rfl, rfl, rfl⟩

end Sys2Proof.Machine
end

section
/-! SUPPORT. A whole build, entry by entry (43_background.md R163, R164; 70_reset_and_hazards.md R230). The idea: `swapTable` of the state is the
build's destination, and an entry written leaves it where it is. So a build ends in the state the one-step build would have left at once,
whatever the order of its writes. -/

namespace Sys2Proof.Machine

/-! The destination of a build. -/

/-- The canonical form lists no index outside the space (20_memory.md R45; log 18). -/
theorem Memory.read_outside {m : Memory} (h : m.wf = true) {j : Nat} (hj : 255 < j) : m.read j = none := by
  induction m with
  | nil => rfl
  | cons c m ih =>
    obtain ⟨k, v⟩ := c
    obtain ⟨-, hk, hm⟩ := (Memory.wf_cons k v m).1 h
    rw [Memory.read_cons, if_neg (by omega), ih hm]

/-- The formula's values have one canonical table, so a state that holds it and differs otherwise in the build's fields only is where the
one-step build leads. -/
theorem swapTable_eq {s t : State} {b : Byte} (hs : s.bglut.wf = true) (ht : t.bglut.wf = true)
    (htable : ∀ i : Fin 256, t.bglut.read i.val = some (bgEntry s i b))
    (hframe : { s with bglut := t.bglut, bgPending := [], bgBusy := false } = t) : swapTable b s = t := by
  have hlut : writeAll s b allIndices s.bglut = t.bglut := by
    refine Memory.eq_of_read_eq (writeAll_wf _ hs) ht fun j => ?_
    rw [read_writeAll]
    split
    · rw [if_pos (mem_allIndices _)]
      exact (htable ⟨j, ‹_›⟩).symm
    · rw [Memory.read_outside hs (by omega), Memory.read_outside ht (by omega)]
  rw [swapTable, hlut, hframe]

/-- An entry of a build leaves its destination where it is. -/
theorem swapTable_writeEntry (i : Fin 256) (b : Byte) {s : State} (hs : s.bglut.wf = true) :
    swapTable b (writeEntry i b s) = swapTable b s :=
  swapTable_eq (Memory.wf_write _ i.isLt hs) (writeAll_wf _ hs) (swapTable_table s b) rfl

/-- A completed build is at its destination. -/
theorem swapTable_of_complete {s : State} {b : Byte} (hinv : s.Inv) (hb : s.bgBright = some b) (hnil : s.bgPending = []) :
    swapTable b s = s := by
  have hidle : s.bgBusy = false := Bool.eq_false_iff.2 fun hbusy => hinv.busy.1 hbusy hnil
  obtain ⟨-, htable⟩ := hinv.table_complete hidle hb
  refine swapTable_eq hinv.bglut hinv.bglut htable ?_
  rw [← hnil, ← hidle]

/-! The steps of a build. -/

/-- A state of a machine that builds entry by entry, `b` the brightness of its build. -/
structure EntrywiseBuild (b : Byte) (s : State) : Prop where
  inv : s.Inv
  bright : s.bgBright = some b
  entrywise : s.cfg.bgAtomicSwap = false

section build

variable {b : Byte} {s : State} (h : EntrywiseBuild b s)
include h

/-- While an index is pending, an agent event writes one and the build goes on. -/
theorem EntrywiseBuild.step (hne : s.bgPending ≠ []) (k : Nat) (es : List Event) :
    ∃ i ∈ s.bgPending, step (withScript (.buildAgent k :: es) s) = .next (withScript es (writeEntry i b s)) ∧
      EntrywiseBuild b (writeEntry i b s) := by
  have hbusy : s.bgBusy = true := h.inv.busy.2 hne
  obtain ⟨i, hi, hagent⟩ := exists_agentStep_entry (s := withScript es s) (k := k) hbusy h.bright h.entrywise hne
  exact ⟨i, hi, (step_buildAgent_iff rfl).2 hagent, writeEntry_inv i hbusy h.bright h.inv, h.bright, h.entrywise⟩

/-- As many agent events as there are picks take as many indices off `bg_pending`, towards the same destination. -/
theorem EntrywiseBuild.run {picks : List Nat} (es : List Event) (hle : picks.length ≤ s.bgPending.length) :
    ∃ t, core.run picks.length (withScript (picks.map Event.buildAgent ++ es) s) = .next (withScript es t) ∧
      EntrywiseBuild b t ∧ t.bgPending.length + picks.length = s.bgPending.length ∧ swapTable b t = swapTable b s := by
  induction picks generalizing s with
  | nil => exact ⟨s, rfl, h, rfl, rfl⟩
  | cons k ks ih =>
    rw [List.length_cons] at hle
    obtain ⟨i, hi, hstep, hentry⟩ := h.step (List.ne_nil_of_length_pos (by omega)) k (ks.map Event.buildAgent ++ es)
    have hlen : (writeEntry i b s).bgPending.length = s.bgPending.length - 1 := List.length_erase_of_mem hi
    obtain ⟨t, hrun, ht, hcount, hdest⟩ := ih hentry (by omega)
    refine ⟨t, ?_, ht, ?_, hdest.trans (swapTable_writeEntry i b h.inv.bglut)⟩
    · rw [List.length_cons, List.map_cons, List.cons_append, run_succ _ hstep, hrun]
    · rw [List.length_cons]
      omega

/-- As many agent events as there are pending indices end the build, whatever they pick. -/
theorem EntrywiseBuild.run_all {picks : List Nat} (rest : List Event) (hlen : picks.length = s.bgPending.length) :
    core.run picks.length (withScript (picks.map Event.buildAgent ++ rest) s) = .next (withScript rest (swapTable b s)) := by
  obtain ⟨t, hrun, ht, hcount, hdest⟩ := h.run rest hlen.le
  have hnil : t.bgPending = [] := List.eq_nil_of_length_eq_zero (by omega)
  rw [hrun, ← hdest, swapTable_of_complete ht.inv ht.bright hnil]

/-- Fewer do not. -/
theorem EntrywiseBuild.run_fewer {picks : List Nat} (rest : List Event) {n : Nat} (hlen : picks.length = s.bgPending.length)
    (hn : n < picks.length) :
    ∃ t, core.run n (withScript (picks.map Event.buildAgent ++ rest) s) = .next t ∧ t.bgBusy = true := by
  have htake : (picks.take n).length = n := List.length_take_of_le hn.le
  obtain ⟨t, hrun, ht, hcount, -⟩ := h.run ((picks.drop n).map Event.buildAgent ++ rest) (picks := picks.take n) (by omega)
  rw [← List.append_assoc, ← List.map_append, List.take_append_drop, htake] at hrun
  exact ⟨_, hrun, ht.inv.busy.2 (List.ne_nil_of_length_pos (by omega))⟩

end build

/-- Settles O43: an agent event per pending index leads to the destination, and before the last of them the build still runs. -/
theorem buildTakesPendingSteps : Obligations.BuildTakesPendingSteps := by
  intro s b picks rest hinv _ hb hswap hlen hscript
  have hbuild : EntrywiseBuild b s := ⟨hinv, hb, hswap⟩
  have hs : withScript (picks.map Event.buildAgent ++ rest) s = s := hscript ▸ rfl
  have hall := hbuild.run_all rest hlen
  rw [hs] at hall
  exact ⟨⟨_, hall, rfl, rfl, rfl, swapTable_table s b⟩, fun n hn => hs ▸ hbuild.run_fewer rest hlen hn⟩

theorem EntrywiseBuild.of_startBuild (b : Byte) {s : State} (hinv : s.Inv) (hswap : s.cfg.bgAtomicSwap = false) :
    EntrywiseBuild b (startBuild b s) :=
  ⟨startBuild_inv b hinv, rfl, hswap⟩

/-- Settles O57: BGBUILD makes all 256 indices pending, and the build it starts is at brightness `din`. -/
theorem buildAfterBgbuildTakes256Steps : Obligations.BuildAfterBgbuildTakes256Steps := by
  intro s picks rest hinv hidle hdin hswap hpicks
  have hbuild := EntrywiseBuild.of_startBuild (BitVec.ofNat 8 s.issue.din.toNat) hinv hswap
  have hlen := hpicks.trans allIndices_length.symm
  have hall := hbuild.run_all rest hlen
  rw [hpicks] at hall
  exact ⟨_, exec_bgbuild_idle hidle hdin, ⟨_, hall, rfl, rfl, swapTable_table _ _⟩,
    fun n hn => hbuild.run_fewer rest hlen (hn.trans_eq hpicks.symm)⟩

/-- The machine with BG_ATOMIC_SWAP true, in the same state otherwise (00_scope.md R13; log 10). -/
def withAtomicSwap (s : State) : State := { s with cfg := { s.cfg with bgAtomicSwap := true } }

/-- The parameter and the script have no part in a build's destination. -/
theorem swapTable_withAtomicSwap (b : Byte) (es : List Event) {s : State} (hs : s.bglut.wf = true) :
    swapTable b (withScript es (withAtomicSwap s)) = withAtomicSwap (withScript es (swapTable b s)) :=
  swapTable_eq hs (writeAll_wf _ hs) (swapTable_table s b) rfl

/-- Settles O45: both machines end at the same destination (`EntrywiseBuild.run_all`, `swapTable_withAtomicSwap`). -/
theorem atomicSwapRefinesEntrywise : Obligations.AtomicSwapRefinesEntrywise := by
  intro s picks rest hinv hbusy hswap hpending hpicks
  obtain ⟨b, hb⟩ := Option.ne_none_iff_exists'.1 (hinv.bright hbusy)
  have hbuild : EntrywiseBuild b s := ⟨hinv, hb, hswap⟩
  have hlen : picks.length = s.bgPending.length := by rw [hpicks, hpending, allIndices_length]
  have hall := hbuild.run_all rest hlen
  rw [hpicks] at hall
  have hswapped : agentStep 0 (withScript rest (withAtomicSwap s)) = .ok (withAtomicSwap (withScript rest (swapTable b s))) := by
    rw [agentStep_swap (s := withScript rest (withAtomicSwap s)) hbusy hb rfl, swapTable_withAtomicSwap b rest hinv.bglut]
  exact ⟨_, hall, (step_buildAgent_iff rfl).2 hswapped⟩

end Sys2Proof.Machine
end

section
/-! SUPPORT. The status word field by field (10_state.md R27, 44_status.md R180): an append of bit vectors is read by dropping the fields
below the one asked for and those above it. -/

namespace Sys2Proof.Machine

theorem statusWord_bit_one (s : State) : (statusWord s).getLsbD 1 = s.fault := by
  rw [statusWord, statusBits, BitVec.getLsbD_append, BitVec.getLsbD_append]
  simp

@[simp] theorem statusWord_bits_seven_four (s : State) : (statusWord s).extractLsb' 4 4 = s.cause := by
  rw [statusWord, statusBits, BitVec.extractLsb'_append_eq_of_le, BitVec.extractLsb'_append_eq_of_le,
    BitVec.extractLsb'_append_eq_of_le, BitVec.extractLsb'_append_eq_of_add_le, BitVec.extractLsb'_eq_self] <;> decide

@[simp] theorem statusWord_bits_three_two (s : State) : (statusWord s).extractLsb' 2 2 = 0 := by
  rw [statusWord, statusBits, BitVec.extractLsb'_append_eq_of_le, BitVec.extractLsb'_append_eq_of_le,
    BitVec.extractLsb'_append_eq_of_add_le] <;> decide

@[simp] theorem statusWord_bits_fifteen_eight (s : State) : (statusWord s).extractLsb' 8 8 = 0 := by
  rw [statusWord, statusBits, BitVec.extractLsb'_append_eq_of_le, BitVec.extractLsb'_append_eq_of_le,
    BitVec.extractLsb'_append_eq_of_le, BitVec.extractLsb'_append_eq_of_le] <;> decide

/-- Nothing is in flight or recorded at reset (10_state.md R34). -/
theorem statusWord_reset : statusWord State.reset = 0 := rfl

/-- STAT has no branch: it drives the status word. -/
theorem exec_stat (s : State) : exec .stat s = .next (putDout (some (statusWord s)) s) := rfl

/-- Settles O50: STAT drives the status word, which is read field by field and is 0 at reset. -/
theorem statReturnsStatusWord : Obligations.StatReturnsStatusWord := by
  refine ⟨decode_eq_ok_iff.2 rfl, fun s => ⟨statusWord s, exec_stat s, statusWord_bit_zero s, statusWord_bit_one s,
    statusWord_bits_seven_four s, statusWord_bits_three_two s, statusWord_bits_fifteen_eight s⟩, ?_⟩
  rw [exec_stat, statusWord_reset]

end Sys2Proof.Machine
end

section
/-! SUPPORT. The fault action (60_exceptions.md R191) on the buses, and the causes of each family of commands (R192 to R199, R201): a command
that checks its inputs first has one cause, that of the check, as what it computes from checked inputs is never a fault. -/

namespace Sys2Proof.Machine

/-! The fault action. -/

/-- The buses after a fault: the target of the issuing port is ⊥, and no other. -/
theorem invalidate_getElem? (t : Target) (s : State) (p : Nat) :
    (invalidate t s).ports[p]? =
      if s.issue.port = p then
        s.ports[p]?.map fun o =>
          { pix := if t = .pix ∨ t = .both then none else o.pix, dout := if t = .dout ∨ t = .both then none else o.dout }
      else s.ports[p]? := by
  cases t with
  | pix => simpa using putPix_getElem? none s p
  | dout => simpa using putDout_getElem? none s p
  | both =>
    rw [invalidate_both, putDout_getElem?, putPix_getElem?, putPix_issue]
    split
    · rw [Option.map_map]; rfl
    · rfl
  | neither => simp

/-- Settles O15: the fault action writes FAULT, CAUSE and the buses `invalidate` writes, and an illegal command is one with both. -/
theorem faultActionEffect : Obligations.FaultActionEffect := by
  refine ⟨fun c t s => ?_, fun _ => rfl⟩
  refine ⟨raiseFault_fault s c t, raiseFault_cause s c t, raiseFault_bglut s c t, raiseFault_bgBusy s c t,
    raiseFault_bgBright s c t, raiseFault_bgPending s c t, raiseFault_scale s c t, raiseFault_gamma8 s c t,
    raiseFault_gamma16 s c t, raiseFault_cfg s c t, raiseFault_issue s c t, raiseFault_script s c t, fun p => ?_⟩
  rw [raiseFault_ports, invalidate_getElem?]

/-! The causes of the checks and of the table reads. -/

/-- Where nothing fails behind a check, the only cause is the check's. -/
theorem cause_of_guarded {α : Type} {p : Prop} [Decidable p] {r : Except Cause α} {c₀ c : Cause} (hr : p → ∃ x, r = .ok x)
    (h : (if p then r else .error c₀) = .error c) : c = c₀ := by
  split at h
  · obtain ⟨x, rfl⟩ := hr ‹p›
    cases h
  · cases h
    rfl

/-- A read-only table faults on an index outside it and on nothing else (20_memory.md R45). -/
theorem cause_of_memRead_rom {sp : Space} {i : Nat} {s : State} {c : Cause} (hsp : sp ≠ .bglut)
    (h : memRead sp i s = .error c) : c = .chanRange := by
  cases sp with
  | scale | gamma8 | gamma16 => exact (romRead_error h).2
  | bglut => exact absurd rfl hsp

theorem cause_of_memRead_bglut {i : Nat} {s : State} {c : Cause} (h : memRead .bglut i s = .error c) :
    c = .chanRange ∨ c = .bgUnwritten := by
  by_cases hi : 255 < i
  · rw [memRead_bglut_outside hi] at h
    cases h
    exact .inl rfl
  · cases hv : s.bglut.read i with
    | some v =>
      rw [memRead_bglut_written (by omega) hv] at h
      cases h
    | none =>
      rw [memRead_bglut_unwritten (by omega) hv] at h
      cases h
      exact .inr rfl

/-! The causes of the commands. -/

/-- The step from `s` to `t` leaves FAULT and CAUSE alone, or is the fault action of a cause the operation has. -/
def FaultsAsListed (o : Op) (s t : State) : Prop :=
  (t.fault = s.fault ∧ t.cause = s.cause) ∨ ∃ c ∈ causesOf o, t = raiseFault c (targetOf o) s

section results

variable {o : Op} {s t : State}

theorem FaultsAsListed.of_pixResult {r : Except Cause Pixel} (ho : targetOf o = .pix) (h : pixResult r s = .next t)
    (hr : ∀ c, r = .error c → c ∈ causesOf o) : FaultsAsListed o s t := by
  rcases pixResult_cases h with ⟨p, -, rfl⟩ | ⟨c, hc, rfl⟩
  · exact .inl ⟨rfl, rfl⟩
  · exact .inr ⟨c, hr c hc, by rw [ho]⟩

theorem FaultsAsListed.of_doutResult {r : Except Cause Word} (ho : targetOf o = .dout) (h : doutResult r s = .next t)
    (hr : ∀ c, r = .error c → c ∈ causesOf o) : FaultsAsListed o s t := by
  rcases doutResult_cases h with ⟨v, -, rfl⟩ | ⟨c, hc, rfl⟩
  · exact .inl ⟨rfl, rfl⟩
  · exact .inr ⟨c, hr c hc, by rw [ho]⟩

/-- A command that reads one entry of a read-only table. -/
theorem FaultsAsListed.of_romRead {sp : Space} {i : Nat} (ho : targetOf o = .dout) (hcauses : causesOf o = [.chanRange])
    (hsp : sp ≠ .bglut) (h : doutResult (memRead sp i s) s = .next t) : FaultsAsListed o s t :=
  .of_doutResult ho h fun c hc => by rw [hcauses, cause_of_memRead_rom hsp hc]; exact List.mem_singleton_self _

theorem FaultsAsListed.of_colorCorrect {g : Format} {dst : Format} {n : Nat} (h : colorCorrect dst n s = .next t) :
    FaultsAsListed (.cc .standard24 g) s t :=
  .of_pixResult rfl h fun _ hc => List.mem_singleton.2
    (cause_of_guarded (fun hfits => ⟨_, colorLanes_inside dst n ((fits_standard24_iff _).1 hfits) s⟩) hc)

theorem FaultsAsListed.of_slutCommand {a b : Width} (hwf : (Op.slut a b).wf = true) (h : slutCommand a b s = .next t) :
    FaultsAsListed (.slut a b) s t := by
  obtain ⟨tab, htab⟩ := Option.isSome_iff_exists.1 hwf
  rw [slutCommand, htab] at h
  exact .of_romRead rfl rfl (by simp) h

theorem FaultsAsListed.of_execBgbuild (h : execBgbuild s = .next t) : FaultsAsListed .bgbuild s t := by
  unfold execBgbuild at h
  split at h
  · exact .inr ⟨.bgBusy, by simp [causesOf], (Host.Outcome.next.inj h).symm⟩
  · split at h
    · exact .inr ⟨.brightRange, by simp [causesOf], (Host.Outcome.next.inj h).symm⟩
    · cases h
      exact .inl ⟨rfl, rfl⟩

end results

/-- The families one by one; a legal operation's widths and formats are those its rescaler or its tables know. -/
theorem execOp_faultsAsListed {o : Op} {s t : State} (hwf : o.wf = true) (h : execOp o s = .next t) :
    FaultsAsListed o s t := by
  cases o with
  | conv f g =>
    refine .of_pixResult rfl h fun c hc => List.mem_singleton.2 (cause_of_guarded (fun hfits => ?_) hc)
    obtain ⟨p, hp, -⟩ := convLanes_ok (g := g) s hfits
    exact ⟨p, hp⟩
  | mknorm f => exact .of_pixResult rfl h fun c hc => List.mem_singleton.2 (cause_of_guarded (fun _ => ⟨_, rfl⟩) hc)
  | rescale a b =>
    refine .of_doutResult rfl h fun c hc => List.mem_singleton.2 (cause_of_guarded (fun hlt => ?_) hc)
    obtain ⟨x, hx, -⟩ := rescale_ok s hwf hlt
    exact ⟨x, hx⟩
  | slut a b => exact .of_slutCommand hwf h
  | gamma8 => exact .of_romRead rfl rfl (by simp) h
  | gamma16 => exact .of_romRead rfl rfl (by simp) h
  | cc f g =>
    cases f with
    | standard24 =>
      cases g with
      | standard24 => exact .of_colorCorrect h
      | wide48 => exact .of_colorCorrect h
      | narrow8 | mid16 => cases hwf
    | narrow8 | mid16 | wide48 => exact .inr ⟨.ccDomain, List.mem_singleton_self _, (Host.Outcome.next.inj h).symm⟩
  | bgbuild => exact .of_execBgbuild h
  | bgread => exact .of_doutResult rfl h fun c hc => by simpa [causesOf] using cause_of_memRead_bglut hc
  | mkraw | stat =>
    cases h
    exact .inl ⟨rfl, rfl⟩

/-- Settles O16: an instruction's meaning is its operation's, which is legal. -/
theorem causesAreTheirCommands : Obligations.CausesAreTheirCommands :=
  ⟨fun i _ _ h => execOp_faultsAsListed (op_wf i) ((exec_eq_execOp i _).symm.trans h), rfl⟩

end Sys2Proof.Machine
end

section
/-! SUPPORT. No run stops (60_exceptions.md R200, R202; log 1, log 2, log 4, log 13): a state that meets the invariant, with every command of
its script on a port it has, answers such a state. -/

namespace Sys2Proof.Machine

/-- What keeps a run going: the invariant, and a script on the machine's ports. -/
structure CanRun (s : State) : Prop where
  inv : s.Inv
  onPorts : ∀ e ∈ s.script, e.onPorts s

/-- What an event may name depends on the number of ports alone. -/
theorem onPorts_congr {s t : State} (h : t.ports.length = s.ports.length) (e : Event) : e.onPorts t ↔ e.onPorts s := by
  cases e <;> simp [Event.onPorts, h]

theorem agentStep_script_ports {k : Nat} {s t : State} (h : agentStep k s = .ok t) : t.script = s.script ∧ t.ports = s.ports := by
  rcases agentStep_cases h with ⟨rfl, -⟩ | ⟨b, i, -, -, -, -, rfl⟩ | ⟨b, -, -, -, rfl⟩ <;> exact ⟨rfl, rfl⟩

/-- A step takes its event off the script and keeps the number of ports. -/
theorem step_script_ports {s t : State} (h : step s = .next t) :
    t.script = s.script.tail ∧ t.ports.length = s.ports.length := by
  rcases step_cases h with ⟨hs, rfl⟩ | ⟨q, rest, i, hs, -, -, he⟩ | ⟨q, rest, r, hs, -, -, rfl⟩ | ⟨k, rest, hs, ha⟩ | ⟨rest, hs, rfl⟩
  · simp [hs]
  · have hdid := exec_cases he
    obtain ⟨-, -, hscript⟩ := hdid.inputs
    exact ⟨by rw [hscript, hs]; rfl, hdid.ports_length⟩
  · simp [hs, illegalCommand]
  · obtain ⟨hscript, hports⟩ := agentStep_script_ports ha
    exact ⟨by rw [hscript, hs]; rfl, by rw [hports]; rfl⟩
  · simp [hs]

/-- A command on a port of the machine answers a next state: its own effect, or the fault of an illegal word. -/
theorem step_command_next {s : State} {q : Issue} {rest : List Event} (hs : s.script = .command q :: rest)
    (hq : q.port < s.ports.length) : ∃ t, step s = .next t := by
  cases hd : decode q.cmd with
  | ok i =>
    rw [stepRunsDecodedCommand s q rest i hs hq hd]
    exact exec_next i _
  | error r =>
    obtain ⟨-, hfault⟩ := illegalWordsFault q.cmd
    exact ⟨_, hfault s q rest hs rfl hq (decode_error_iff.1 ⟨r, hd⟩)⟩

namespace CanRun

variable {s : State} (h : CanRun s)
include h

theorem step_next : ∃ t, step s = .next t := by
  cases hs : s.script with
  | nil => exact ⟨s, step_of_empty_script hs⟩
  | cons e rest =>
    cases e with
    | command q => exact step_command_next hs (h.onPorts (.command q) (by simp [hs]))
    | buildAgent k =>
      obtain ⟨t, ht⟩ := agentStep_ok (s := withScript rest s) k h.inv.bright
      exact ⟨t, (step_buildAgent_iff hs).2 ht⟩
    | reset => exact ⟨_, step_of_reset hs⟩

theorem of_step {t : State} (hstep : step s = .next t) : CanRun t where
  inv := stepKeepsInvariant s t h.inv hstep
  onPorts e he := by
    obtain ⟨hscript, hports⟩ := step_script_ports hstep
    rw [hscript] at he
    exact (onPorts_congr hports e).2 (h.onPorts e (List.mem_of_mem_tail he))

theorem run_next (n : Nat) : ∃ t, core.run n s = .next t := by
  induction n generalizing s with
  | zero => exact ⟨s, run_zero s⟩
  | succ n ih =>
    obtain ⟨t, hstep⟩ := h.step_next
    rw [run_succ n hstep]
    exact ih (h.of_step hstep)

end CanRun

/-- Settles O5, by induction on the number of steps. -/
theorem everyScriptRuns : Obligations.EveryScriptRuns := fun _ hinv hports n => CanRun.run_next ⟨hinv, hports⟩ n

end Sys2Proof.Machine
end

section
/-! SUPPORT. Reset, and that nothing else clears FAULT, CAUSE or a BGLUT entry (70_reset_and_hazards.md R220, R221; log 14). -/

namespace Sys2Proof.Machine

/-- From `s` to `t`, FAULT once set keeps its cause and stays set, and no entry returns to ⊥. -/
def NothingCleared (s t : State) : Prop :=
  (s.fault = true → t.fault = true ∧ t.cause = s.cause) ∧ ∀ i, s.bglut.read i ≠ none → t.bglut.read i ≠ none

theorem NothingCleared.refl (s : State) : NothingCleared s s := ⟨fun hf => ⟨hf, rfl⟩, fun _ hi => hi⟩

/-- FAULT is only ever set, and the first cause is kept (60_exceptions.md R191). -/
theorem raiseFault_nothingCleared (c : Cause) (g : Target) (s : State) : NothingCleared s (raiseFault c g s) :=
  ⟨fun hf => ⟨raiseFault_fault s c g, by rw [raiseFault_cause, if_pos hf]⟩, fun i hi => by rwa [raiseFault_bglut]⟩

/-- Of the four things a command can have done, only taking a fault touches these fields. -/
theorem DidCommand.nothingCleared {o : Op} {s t : State} (h : DidCommand o s t) : NothingCleared s t := by
  rcases h with ⟨p, -, rfl⟩ | ⟨v, -, rfl⟩ | ⟨c, rfl⟩ | ⟨b, -, -, rfl⟩
  · exact .refl s
  · exact .refl s
  · exact raiseFault_nothingCleared c _ s
  · exact .refl s

/-- The agent replaces entries by entries and leaves FAULT and CAUSE alone. -/
theorem agentStep_nothingCleared {k : Nat} {s t : State} (h : agentStep k s = .ok t) : NothingCleared s t := by
  rcases agentStep_cases h with ⟨rfl, -⟩ | ⟨b, i, -, -, -, -, rfl⟩ | ⟨b, -, -, -, rfl⟩
  · exact .refl t
  · refine ⟨fun hf => ⟨hf, rfl⟩, fun j hj => ?_⟩
    rw [writeEntry_bglut, Memory.read_write]
    split
    · exact Option.some_ne_none _
    · exact hj
  · refine ⟨fun hf => ⟨hf, rfl⟩, fun j hj => ?_⟩
    by_cases hlt : j < 256
    · rw [swapTable_table s b ⟨j, hlt⟩]
      exact Option.some_ne_none _
    · rwa [swapTable_read_outside b s (by omega)]

/-- Latching a command's arguments and taking its event off the script touch none of these fields, nor does any event but reset. -/
theorem step_nothingCleared {s t : State} (h : step s = .next t) (hreset : s.script.head? ≠ some .reset) :
    NothingCleared s t := by
  rcases step_cases h with ⟨-, rfl⟩ | ⟨q, rest, i, -, -, -, he⟩ | ⟨q, rest, r, -, -, -, rfl⟩ | ⟨k, rest, -, ha⟩ | ⟨rest, hs, -⟩
  · exact .refl t
  · exact (exec_cases he).nothingCleared
  · exact raiseFault_nothingCleared .illegalCmd .both (withIssue q (withScript rest s))
  · exact agentStep_nothingCleared (s := withScript rest s) ha
  · exact absurd (by rw [hs]; rfl) hreset

/-- Every output bus is ⊥ after reset (10_state.md R34). -/
theorem resetAction_ports_empty {s : State} {o : PortOut} (ho : o ∈ (resetAction s).ports) : o.pix = none ∧ o.dout = none := by
  rw [resetAction_ports, List.mem_map] at ho
  obtain ⟨_, -, rfl⟩ := ho
  exact ⟨rfl, rfl⟩

/-- Settles O17: reset's step is `resetAction`, and of the other events' steps none clears. -/
theorem onlyResetClears : Obligations.OnlyResetClears :=
  ⟨fun _ _ hs => ⟨_, step_of_reset hs, fun _ => rfl, rfl, rfl, rfl, rfl, rfl, fun _ => resetAction_ports_empty, List.length_map _,
    rfl, rfl, rfl⟩, fun _ _ => step_nothingCleared⟩

end Sys2Proof.Machine
end

section
/-! SUPPORT. A build ends under every interleaving with enough agent events (70_reset_and_hazards.md R231, 43_background.md R163; log 20). The
idea: while a build runs a command leaves `bg_pending` alone and an agent event shortens it, so there are always at least as many agent
events ahead as indices pending. -/

namespace Sys2Proof.Machine

/-- While a build runs no command touches `bg_pending`: BGBUILD itself then faults (43_background.md R162). -/
theorem DidCommand.pending_of_busy {o : Op} {s t : State} (h : DidCommand o s t) (hbusy : s.bgBusy = true) :
    t.bgPending = s.bgPending := by
  rcases h with ⟨p, -, rfl⟩ | ⟨v, -, rfl⟩ | ⟨c, rfl⟩ | ⟨b, -, hidle, -⟩
  · rfl
  · rfl
  · exact raiseFault_bgPending s c _
  · exact absurd (hidle.symm.trans hbusy) Bool.false_ne_true

/-- While something is pending of a running build, an agent step takes at least one index off. -/
theorem agentStep_pending_lt {k : Nat} {s t : State} (h : agentStep k s = .ok t) (hbusy : s.bgBusy = true)
    (hne : s.bgPending ≠ []) : t.bgPending.length < s.bgPending.length := by
  have hpos : 0 < s.bgPending.length := List.length_pos_of_ne_nil hne
  rcases agentStep_cases h with ⟨-, hidle | hnil⟩ | ⟨b, i, -, -, -, hi, rfl⟩ | ⟨b, -, -, -, rfl⟩
  · exact absurd (hidle.symm.trans hbusy) Bool.false_ne_true
  · exact absurd hnil hne
  · rw [writeEntry_bgPending, List.length_erase_of_mem hi]
    omega
  · exact hpos

/-- The bounded fairness of log 20: the run goes on, no reset is ahead, and at least as many agent events are as indices are pending. -/
structure FairlyScheduled (s : State) : Prop extends CanRun s where
  noReset : ∀ e ∈ s.script, e ≠ .reset
  enough : s.bgPending.length ≤ (s.script.filter Event.isAgent).length

namespace FairlyScheduled

variable {s : State} (h : FairlyScheduled s)
include h

/-- A step of a running build keeps enough agent events ahead. -/
theorem enough_of_step {t : State} (hbusy : s.bgBusy = true) (hstep : step s = .next t) :
    t.bgPending.length ≤ (s.script.tail.filter Event.isAgent).length := by
  have henough := h.enough
  rcases step_cases hstep with ⟨hs, rfl⟩ | ⟨q, rest, i, hs, -, -, he⟩ | ⟨q, rest, r, hs, -, -, rfl⟩ | ⟨k, rest, hs, ha⟩ | ⟨rest, hs, -⟩
  · simpa [hs] using henough
  · rw [(exec_cases he).pending_of_busy hbusy]
    simpa [hs, Event.isAgent] using henough
  · simpa [hs, Event.isAgent, illegalCommand] using henough
  · have hlt : t.bgPending.length < s.bgPending.length :=
      agentStep_pending_lt (s := withScript rest s) ha hbusy (h.inv.busy.1 hbusy)
    rw [hs, List.filter_cons_of_pos rfl, List.length_cons] at henough
    rw [hs, List.tail_cons]
    omega
  · exact absurd rfl (h.noReset .reset (by simp [hs]))

theorem of_step {t : State} (hbusy : s.bgBusy = true) (hstep : step s = .next t) : FairlyScheduled t := by
  obtain ⟨hscript, -⟩ := step_script_ports hstep
  refine ⟨h.toCanRun.of_step hstep, fun e he => ?_, ?_⟩
  · rw [hscript] at he
    exact h.noReset e (List.mem_of_mem_tail he)
  · rw [hscript]
    exact h.enough_of_step hbusy hstep

/-- With no event left nothing can be pending. -/
theorem idle_of_empty_script (hs : s.script = []) : s.bgBusy = false := by
  have hnil : s.bgPending = [] := by simpa [hs] using h.enough
  exact Bool.eq_false_iff.2 fun hbusy => h.inv.busy.1 hbusy hnil

theorem exists_run_idle : ∃ n t, n ≤ s.script.length ∧ core.run n s = .next t ∧ t.bgBusy = false := by
  induction hs : s.script generalizing s with
  | nil => exact ⟨0, s, le_rfl, run_zero s, h.idle_of_empty_script hs⟩
  | cons e rest ih =>
    cases hbusy : s.bgBusy with
    | false => exact ⟨0, s, Nat.zero_le _, run_zero s, hbusy⟩
    | true =>
      obtain ⟨u, hstep⟩ := h.step_next
      obtain ⟨hscript, -⟩ := step_script_ports hstep
      obtain ⟨n, t, hle, hrun, hidle⟩ := ih (h.of_step hbusy hstep) (by rw [hscript, hs, List.tail_cons])
      exact ⟨n + 1, t, Nat.succ_le_succ hle, (run_succ n hstep).trans hrun, hidle⟩

end FairlyScheduled

/-- Settles O44, by induction on the script. -/
theorem buildEndsUnderFairness : Obligations.BuildEndsUnderFairness :=
  fun _ hinv hports hreset henough => FairlyScheduled.exists_run_idle ⟨⟨hinv, hports⟩, hreset, henough⟩

end Sys2Proof.Machine
end
